-- ==== Sys2Proof/Word.lean ====
section
/-! DEFINITION. The word types of the part and its station and surface numbers. -/

namespace Sys2Proof

/-- One byte of a frame, an access or a transfer. -/
abbrev Byte := BitVec 8

/-- A 16-bit field: cycle count, app tag, frame check, sensor reading. -/
abbrev Half := BitVec 16

/-- A 32-bit digest. -/
abbrev Word := BitVec 32

/-- A station number 0..3 (glossary of 00_scope.md, "Station"). -/
abbrev Station := Fin 4

/-- A surface by the index of its table entry: index `i` is surface id `i + 1` (R1). -/
abbrev Surf := Fin 16

/-- A set of stations, bit `n` meaning station `n` (key of Table 11-1). -/
abbrev StationSet := BitVec 4

end Sys2Proof
end

