-- ==== Sys2Proof/Syntax.lean ====
section
/-! DEFINITION. The commands the part takes: one constructor of `Instr` per row of spec/opcode_table.json, with the
operands its event brings from outside. -/

namespace Sys2Proof

/-- The strap pins as read at the release of RESET_N (R46, R179, Table 10-4). -/
structure StrapPins where
  /-- STN[1:0], the station number. -/
  stn : BitVec 2
  /-- ROLE: low (false) PANEL, high (true) SENSOR. -/
  role : Bool
  /-- ANG[1:0], the angle input kind. -/
  ang : BitVec 2
  /-- RATE[1:0], the cycle rate. -/
  rate : BitVec 2
  /-- AUTO: autostart on. -/
  auto : Bool
  deriving DecidableEq, Repr

/-- The mode in which a reception began (R30, Table 2-2). -/
inductive ReceptionMode where
  | free
  | aligned
  deriving DecidableEq, Repr

/-- One frame reception of another station's frame as the receiver saw it on the link (R29, R35, R36, R41). -/
structure Reception where
  /-- The mode in force when the frame start was detected (R30). -/
  mode : ReceptionMode
  /-- Detected frame start, in REFCLK periods from the cycle start of the own cycle timer. -/
  start : Int
  /-- The bytes taken after the preamble, up to the end of the frame or to where it was cut off. -/
  bytes : List Byte
  /-- The frame had ended when its slot window closed, or at the free reception limit (R36). -/
  ended : Bool
  /-- A second frame start was detected while this frame was being received (R29, R36). -/
  secondStart : Bool
  deriving DecidableEq, Repr

/-- The three ways one slot is settled (R35). -/
inductive Arrival where
  /-- The end of the own transmission, with the bytes read back and whether a frame was still arriving (R33). -/
  | own (readBack : List Byte) (stillArriving : Bool)
  /-- The close of the window of a slot in which no frame start was detected. -/
  | silent (slot : Station)
  /-- A frame start was detected, and its reception is over. -/
  | received (r : Reception)
  deriving DecidableEq, Repr

/-- The two results of a sensor read (R96). -/
inductive SensorResult where
  | reading (value : Half)
  | failed
  deriving DecidableEq, Repr

/-- What the sensor does in the transaction of one read (R96): whether it acknowledges its address with the write
direction, the pointer byte, and its address with the read direction; and the two data bytes it gives after that. -/
structure SensorAnswer where
  ackWrite : Bool
  ackPointer : Bool
  ackRead : Bool
  first : Byte
  second : Byte
  deriving DecidableEq, Repr

/-- The works that the blocks do at one tail start. The order in which the spec lets them be taken is an operand of
TAIL_START. -/
inductive TailWork where
  /-- silence counters (R42) -/
  | silence
  /-- loss declarations (R62 to R64) -/
  | losses
  /-- sync misses and SYNC_LOST (R57) -/
  | sync
  /-- detachment without a pace station (R58) -/
  | noPace
  /-- listen, coldstart and integration counts and their transitions (R49, R50, R52, R53) -/
  | station
  /-- the posture evaluation (R99) -/
  | posture
  /-- reference digest and giver candidate (R130) -/
  | reference
  /-- comparison of the own digest with the reference (R131) -/
  | compare
  /-- freeze giver of a request cycle (R134) -/
  | giver
  /-- the freeze limit (R138) -/
  | freezeLimit
  /-- deadline countdown (R92) -/
  | deadlines
  /-- offer countdown (R84) -/
  | offers
  /-- relay ageing (R152) -/
  | ageing
  /-- idleness read of a pending blank (R165) -/
  | blank
  deriving DecidableEq, Repr

/-- The commands, one constructor per row of spec/opcode_table.json. The COMMAND rows carry the argument bytes of
their access (Table 11-4): the length byte of the access is the number of these bytes (R176). -/
inductive Instr where
  /-- HARD_RESET: the release of RESET_N. -/
  | hardReset (pins : StrapPins)
  /-- CYCLE_START; `holdFirst`: the pool's relay hold (R151) is taken before the panel controller's work (R170). -/
  | cycleStart (holdFirst : Bool)
  | wakeCountExpiry
  | packOwnFrame
  | frameArrival (a : Arrival)
  /-- TAIL_START with the order in which the blocks' works are taken. -/
  | tailStart (order : List TailWork)
  | lossDeclaration
  | listenExpired
  | coldstartDone
  | integrated
  | staleLimit
  | dwellComplete
  | freezeLimit
  | deadline
  | offerExpiry
  | relayAged
  | blankRefused
  | cycleClose
  | sensorReadDone (a : SensorAnswer)
  | arrivalTimeout
  | latch
  /-- ACCESS_END: CS_N rises. `request`: the request bytes received, of use where CS_N rose before the access event;
  `clocked`: how many reply bytes were clocked out whole. -/
  | accessEnd (request : List Byte) (clocked : Nat)
  | unassignedAccessKind (kind : Byte)
  | setConfig (args : List Byte)
  | start (args : List Byte)
  | leave (args : List Byte)
  | create (args : List Byte)
  | destroy (args : List Byte)
  | showCmd (args : List Byte)
  | hide (args : List Byte)
  | raise (args : List Byte)
  | lower (args : List Byte)
  | resize (args : List Byte)
  | confirm (args : List Byte)
  | move (args : List Byte)
  | returnCmd (args : List Byte)
  | cancel (args : List Byte)
  | accept (args : List Byte)
  | decline (args : List Byte)
  | relay (args : List Byte)
  | blank (args : List Byte)
  | wake (args : List Byte)
  | clearAdjust (args : List Byte)
  | clearLinkLog (args : List Byte)
  | readNotice
  | readStatus
  | readEntry (surface : Byte)
  | readDropLog
  | readLinkLog
  | resetAsserted
  | unassignedCommandKind (kind : Byte) (args : List Byte)
  deriving DecidableEq, Repr

end Sys2Proof
end

