-- ==== Sys2Proof/Decode.lean ====
section
/-! DEFINITION. Decoding by the table's bits: no row of spec/opcode_table.json gives bits, so no word spells a command.
The request bytes of an access at the local port do (R176, Table 11-4). -/

namespace Sys2Proof

/-- The command a word spells by the bits of spec/opcode_table.json: none, since the table gives no row any bits. -/
def decodeTableWord (_nbits _w : Nat) : Option Instr := none

/-! ### Request bytes (R176, Table 11-4) -/

/-- The COMMAND of a command kind with its argument bytes (Table 11-4). -/
def commandOf (kind : Byte) (args : List Byte) : Instr :=
  if kind = 0x01 then .setConfig args
  else if kind = 0x02 then .start args
  else if kind = 0x03 then .leave args
  else if kind = 0x10 then .create args
  else if kind = 0x11 then .destroy args
  else if kind = 0x12 then .showCmd args
  else if kind = 0x13 then .hide args
  else if kind = 0x14 then .raise args
  else if kind = 0x15 then .lower args
  else if kind = 0x16 then .resize args
  else if kind = 0x17 then .confirm args
  else if kind = 0x20 then .move args
  else if kind = 0x21 then .returnCmd args
  else if kind = 0x22 then .cancel args
  else if kind = 0x23 then .accept args
  else if kind = 0x24 then .decline args
  else if kind = 0x30 then .relay args
  else if kind = 0x31 then .blank args
  else if kind = 0x32 then .wake args
  else if kind = 0x33 then .clearAdjust args
  else if kind = 0x34 then .clearLinkLog args
  else .unassignedCommandKind kind args

/-- The access of an access kind that has no further request byte. -/
def readOf (kind : Byte) : Instr :=
  if kind = 0x02 then .readNotice
  else if kind = 0x03 then .readStatus
  else if kind = 0x05 then .readDropLog
  else if kind = 0x06 then .readLinkLog
  else .unassignedAccessKind kind

/-- The access event of the bytes taken on MOSI since the fall of CS_N: the request is complete with its last byte, and
the bytes after it are no part of it; none while it is not complete (R176). -/
def accessOf : List Byte → Option Instr
  | [] => none
  | kind :: rest =>
    if kind = 0x01 then
      match rest with
      | c :: len :: args => if len.toNat ≤ args.length then some (commandOf c (args.take len.toNat)) else none
      | _ => none
    else if kind = 0x04 then rest.head?.map .readEntry
    else some (readOf kind)

end Sys2Proof
end

