-- ==== Sys2Proof/Config.lean ====
section
/-! DEFINITION. The free values: what the spec leaves open and no rule states. They have no body, so nothing can be
proved of one value. -/

namespace Sys2Proof.Config

/-- The value of a status record byte to which the spec gives no value, such as the digest bytes under a "none" mark
(Table 11-7). The first argument numbers the read (`State.freeCount`), the second is the byte's offset in the record.
DESIGN CHOICE: log entry 14. -/
opaque statusByte : Nat → Nat → Byte

end Sys2Proof.Config
end

