-- ==== Sys2Proof/Machine/Bytes.lean ====
section
/-! DEFINITION. Byte order and the two cyclic redundancy checks of the formats. -/

namespace Sys2Proof.Machine

/-- Multi-byte fields go most significant byte first (11_formats.md). -/
def halfBytes (v : Half) : List Byte := [v.extractLsb' 8 8, v.extractLsb' 0 8]

/-- Multi-byte fields go most significant byte first (11_formats.md). -/
def wordBytes (v : Word) : List Byte :=
  [v.extractLsb' 24 8, v.extractLsb' 16 8, v.extractLsb' 8 8, v.extractLsb' 0 8]

def toHalf (a b : Byte) : Half := a ++ b

def toWord (a b c d : Byte) : Word := a ++ b ++ c ++ d

/-- A count as one byte. -/
def natByte (n : Nat) : Byte := BitVec.ofNat 8 n

/-- A count as two bytes. -/
def natHalf (n : Nat) : List Byte := halfBytes (BitVec.ofNat 16 n)

/-- Flags are written 0 or 1 (R191). -/
def flagByte (b : Bool) : Byte := if b then 1 else 0

/-- One bit of a CRC register of width `w`, most significant bit first. -/
def crcShift {w : Nat} (poly : BitVec w) (r : BitVec w) : BitVec w :=
  if r.msb then (r <<< 1) ^^^ poly else r <<< 1

/-- Eight bits of a CRC register. -/
def crcShift8 {w : Nat} (poly : BitVec w) (r : BitVec w) : BitVec w :=
  crcShift poly (crcShift poly (crcShift poly (crcShift poly
    (crcShift poly (crcShift poly (crcShift poly (crcShift poly r)))))))

/-- The 16-bit frame check: generator polynomial 0x1021, initial value all ones, no final complement (R37). -/
def crc16 (bytes : List Byte) : Half :=
  bytes.foldl (fun (r : Half) (b : Byte) => crcShift8 0x1021 (r ^^^ (b.setWidth 16 <<< (8 : Nat)))) 0xFFFF

/-- The CRC-32 of the digests: generator polynomial 0x04C11DB7, initial value all ones, without reflection, the result
complemented (R128, R182). -/
def crc32 (bytes : List Byte) : Word :=
  ~~~ (bytes.foldl (fun (r : Word) (b : Byte) => crcShift8 0x04C11DB7 (r ^^^ (b.setWidth 32 <<< (24 : Nat)))) 0xFFFFFFFF)

end Sys2Proof.Machine
end

