-- ==== Sys2Proof/Machine/Types.lean ====
section
/-! DEFINITION. The types of what the nine blocks hold, under the manual's names: code sets, table records, messages,
notices and records of the local port. -/

namespace Sys2Proof.Machine

/-! ### Code sets (Table 11-1) and straps (Table 10-4) -/

inductive Role where
  | panel
  | sensor
  deriving DecidableEq, Repr

inductive AngleKind where
  | none
  | primary
  | secondary
  deriving DecidableEq, Repr

/-- Cycles per second. -/
inductive Rate where
  | r48
  | r60
  | r90
  | r120
  deriving DecidableEq, Repr

/-- Link states (Table 3-1). -/
inductive LinkState where
  | halted
  | listen
  | coldstart
  | integrating
  | active
  | resync
  deriving DecidableEq, Repr

inductive PanelState where
  | lit
  | blankPending
  | dark
  | waking
  deriving DecidableEq, Repr

/-- The four angle bands (R106). -/
inductive Band where
  | closed
  | peek
  | book
  | flat
  deriving DecidableEq, Repr

/-- The posture: UNKNOWN, or that of a band. -/
inductive Posture where
  | unknown
  | band (b : Band)
  deriving DecidableEq, Repr

/-- The reason code set. -/
inductive Reason where
  | frozen
  | noSurface
  | locked
  | noReturn
  | tableFull
  | destAbsent
  | noRoom
  | notOwner
  | panelDark
  | declined
  | hostTimeout
  deriving DecidableEq, Repr

/-- LINK_STATE causes (Table 3-4). -/
inductive LinkCause where
  | start
  | syncLost
  | clash
  | noPace
  | listenExpired
  | paceHeard
  | coldstartDone
  | integrated
  | joined
  | resynced
  | diverged
  | leave
  | giveUp
  deriving DecidableEq, Repr

inductive PostureCause where
  | band
  | stale
  | dump
  deriving DecidableEq, Repr

inductive PanelEvent where
  | dark
  | lit
  | blankRefused
  | blankCancelled
  | recovered
  deriving DecidableEq, Repr

inductive SoftCondition where
  | clipped
  | noChange
  | returnReplaced
  deriving DecidableEq, Repr

/-- The three classes that share the twenty buffers (R145). -/
inductive SharedClass where
  | transaction
  | state
  | relay
  deriving DecidableEq, Repr

inductive DropReason where
  | poolFull
  | classLimit
  | relayAged
  | destLost
  | inboundFull
  deriving DecidableEq, Repr

inductive LinkError where
  | length
  | frameCheck
  | late
  | clash
  | syncLost
  deriving DecidableEq, Repr

inductive Direction where
  | front
  | back
  deriving DecidableEq, Repr

inductive ReqReason where
  | join
  | diverged
  deriving DecidableEq, Repr

inductive TransferKind where
  | list
  | off
  deriving DecidableEq, Repr

/-! ### Surfaces and the placement table -/

/-- A target: a panel station or SPAN. -/
inductive Target where
  | panel (s : Station)
  | span
  deriving DecidableEq, Repr

/-- A region in cells (R4). -/
structure Region where
  x : Nat
  y : Nat
  w : Nat
  h : Nat
  deriving DecidableEq, Repr

/-- A target together with a region. -/
structure Placement where
  target : Target
  region : Region
  deriving DecidableEq, Repr

/-- A transaction id: originator and sequence number. -/
structure TxnId where
  orig : Station
  seq : Byte
  deriving DecidableEq, Repr

inductive EntryState where
  | free
  | placed
  | parked
  deriving DecidableEq, Repr

/-- A surface entry (Table 1-1). `arriving` is `some n` for yes with `n` cycles left. -/
structure Entry where
  state : EntryState
  appTag : Half
  owner : Option Station
  target : Option Target
  region : Option Region
  visible : Bool
  arriving : Option Nat
  implicit : Bool
  ret : Option Placement
  lock : Option TxnId
  deriving DecidableEq, Repr

/-- The FREE column of Table 1-2. -/
def Entry.free : Entry where
  state := .free
  appTag := 0
  owner := none
  target := none
  region := none
  visible := false
  arriving := none
  implicit := false
  ret := none
  lock := none

/-- The placement table: 16 entries (R1) and one stacking list per station number, front to back (R8). -/
structure Tables where
  entries : Vector Entry 16
  lists : Vector (List Surf) 4
  deriving DecidableEq, Repr

/-- The cleared placement table (R24). -/
def Tables.empty : Tables where
  entries := Vector.replicate 16 Entry.free
  lists := #v[[], [], [], []]

/-! ### Transactions -/

inductive TxnKind where
  | move
  | ret
  deriving DecidableEq, Repr

/-- An open transaction entry (Table 4-1). -/
structure Txn where
  id : TxnId
  kind : TxnKind
  surf : Surf
  origin : Option Target
  dest : Placement
  retFlag : Bool
  participants : StationSet
  answered : StationSet
  cyclesLeft : Nat
  reserved : List Station
  deriving DecidableEq, Repr

inductive OfferState where
  | pending
  | accepted
  | declined
  deriving DecidableEq, Repr

/-- An offer record (R72). -/
structure Offer where
  id : TxnId
  cyclesLeft : Nat
  state : OfferState
  deriving DecidableEq, Repr

/-- The transaction table with the local offer records, own open count and sequence counter (R68, R72, R73). -/
structure TxnUnit where
  table : List Txn
  offers : List Offer
  ownOpen : Nat
  seq : Byte
  deriving DecidableEq, Repr

/-! ### Angle and posture -/

/-- An angle sample (R97). -/
structure Sample where
  kind : AngleKind
  valid : Bool
  value : Nat
  deriving DecidableEq, Repr

/-- The posture state proper (section 5.3): what is serialised and carried in DUMP_END. -/
structure PostureState where
  posture : Posture
  candidate : Option Band
  dwell : Nat
  distrust : Bool
  distrustRun : Nat
  stale : Nat
  deriving DecidableEq, Repr

/-- The starting values of the posture state (Table 5-1). -/
def PostureState.start : PostureState where
  posture := .unknown
  candidate := none
  dwell := 0
  distrust := false
  distrustRun := 0
  stale := 0

/-- One thing that passes on the sensor bus (R96). -/
inductive BusStep where
  /-- A start or repeated start condition. -/
  | start
  /-- The sensor address with a direction, and whether the sensor acknowledged it. -/
  | address (a : BitVec 7) (reads : Bool) (acked : Bool)
  /-- A byte to the sensor, and whether the sensor acknowledged it. -/
  | sent (b : Byte) (acked : Bool)
  /-- A data byte from the sensor, which the station acknowledges. -/
  | taken (b : Byte)
  | stop
  deriving DecidableEq, Repr

/-- The sensor read that serves the next cycle start (R96). -/
inductive SensorRead where
  | idle
  | running
  | done (r : SensorResult)
  deriving DecidableEq, Repr

/-- The angle and posture unit (Table 5-1). -/
structure AngleUnit where
  read : SensorRead
  ownSample : Sample
  samples : Vector (Option Sample) 4
  angle : Nat
  angleValid : Bool
  ps : PostureState
  disagreeRun : Nat
  agreeRun : Nat
  episode : Bool
  deriving DecidableEq, Repr

/-! ### Messages and frames -/

/-- A DUMP record (R139). The z position is 0 where the surface is in no list. -/
structure DumpRecord where
  surf : Surf
  entry : Entry
  z : Vector Nat 4
  deriving DecidableEq, Repr

/-- The messages of a slot frame (Table 11-3). -/
inductive Msg where
  | create (tag : Byte) (appTag : Half) (region : Region) (visible : Bool)
  | destroy (sf : Surf)
  | setVisible (sf : Surf) (visible : Bool)
  | restack (sf : Surf) (dir : Direction)
  | resize (sf : Surf) (region : Region)
  | arrived (sf : Surf)
  | proposeMove (id : TxnId) (sf : Surf) (dest : Placement) (retFlag : Bool)
  | proposeReturn (id : TxnId) (sf : Surf)
  | cancel (id : TxnId)
  | ready (id : TxnId)
  | refuse (id : TxnId) (reason : Option Reason)
  | resyncReq (reason : ReqReason)
  | dump (rec : DumpRecord)
  | dumpEnd (count : Nat) (ps : PostureState) (digest : Word)
  | relay (dest : Station) (payload : List Byte)
  deriving DecidableEq, Repr

/-- A message as a heard frame gives it: its kind byte, and its content, or none where it holds a value with no
assigned meaning (R190). -/
structure HeardMsg where
  kind : Byte
  content : Option Msg
  deriving DecidableEq, Repr

/-- The header of a slot frame (Tables 2-3 and 11-2), less the message count. -/
structure Header where
  station : Station
  role : Role
  state : LinkState
  cycle : Half
  coldstart : Bool
  bye : Bool
  relayHold : Bool
  degraded : Bool
  frozen : Bool
  panelState : PanelState
  sample : Sample
  configDigest : Option Word
  tableDigest : Option Word
  deriving DecidableEq, Repr

/-- The own frame that is being sent: what was packed, and the bytes sent after the preamble. -/
structure OwnFrame where
  header : Header
  msgs : List Msg
  bytes : List Byte
  deriving DecidableEq, Repr

/-- A heard frame as it is handed on (R40). -/
structure Frame where
  header : Header
  msgs : List HeardMsg
  deriving DecidableEq, Repr

/-! ### Link controller and station controller -/

/-- A link error log record (R43, R44). -/
structure LogRecord where
  kind : LinkError
  slot : Station
  cycle : Half
  deriving DecidableEq, Repr

/-- The link controller. -/
structure LinkUnit where
  /-- Cycle count (R27). -/
  cycle : Half
  /-- Position of the cycle timer, in REFCLK periods since cycle start, as of the last cycle event (log entry 9). -/
  timer : Int
  /-- Silence counters (R42). -/
  silence : Vector Nat 4
  /-- Stations heard since the last tail start (R42). -/
  heard : StationSet
  /-- Slots of the running cycle whose arrival has been taken (R29, R35). -/
  settled : StationSet
  /-- The own frame being sent (R31, R33). -/
  sending : Option OwnFrame
  minor : Option LogRecord
  major : Option LogRecord
  laterMajors : Nat
  deriving DecidableEq, Repr

/-- What the receiver keeps of the running cycle beside the link controller's registers (R30, R41; log entry 11), in
positions of the cycle timer. -/
structure Receiver where
  /-- The moment at which aligned reception took the place of free reception in this cycle: a frame that was being
  received then is finished in free reception. -/
  freeUntil : Option Int
  /-- From where to where the own frame of this cycle was sent. -/
  ownFrame : Option (Int × Int)
  deriving DecidableEq, Repr

/-- No reception is under way, and no own frame was sent in the cycle. -/
def Receiver.idle : Receiver := ⟨none, none⟩

/-- The latched straps (R179). -/
structure Straps where
  station : Station
  role : Role
  angle : AngleKind
  rate : Rate
  auto : Bool
  deriving DecidableEq, Repr

/-- Station numbers are read from STN[1:0], STN1 the more significant bit (R179). -/
def Straps.latch (p : StrapPins) : Straps where
  station := p.stn.toFin
  role := if p.role then .sensor else .panel
  angle := if p.ang = 1 then .primary else if p.ang = 2 then .secondary else .none
  rate := if p.rate = 0 then .r48 else if p.rate = 1 then .r60 else if p.rate = 2 then .r90 else .r120
  auto := p.auto

/-- A peer-view entry that is not ABSENT (Table 3-5). -/
structure Peer where
  state : LinkState
  role : Role
  degraded : Bool
  relayHold : Bool
  configDigest : Option Word
  deriving DecidableEq, Repr

/-- The station controller (Table 3-3). -/
structure StationUnit where
  straps : Straps
  linkState : LinkState
  pace : Option Station
  peers : Vector (Option Peer) 4
  listenCount : Nat
  coldstartCount : Nat
  integrationCount : Nat
  /-- The running cycle's cycle start was taken in INTEGRATING (R52). -/
  fullCycle : Bool
  mismatchReported : Bool
  joinPending : Bool
  clashCount : Nat
  syncMissCount : Nat
  /-- Stations that were the pace station when a sync miss of theirs was reported in this cycle (R57). -/
  syncMissed : StationSet
  leavePending : Bool
  deriving DecidableEq, Repr

/-! ### Divergence monitor -/

/-- Dump state (Table 7-1). -/
inductive DumpState where
  | none
  | asked
  | waiting
  | collecting (records : List DumpRecord)
  deriving DecidableEq, Repr

/-- Dump cursor (Table 7-1). -/
inductive DumpCursor where
  | next (sf : Surf)
  | dumpEnd
  | done
  deriving DecidableEq, Repr

/-- The divergence monitor (Table 7-1). -/
structure DivUnit where
  ownDigest : Option Word
  reference : Option Word
  giverCandidate : Option Station
  /-- The digests of the candidate frames heard in the running cycle (R130). -/
  candidates : Vector (Option Word) 4
  requestCycle : Bool
  nextMark : Bool
  freezeCount : Nat
  freezeFlag : Bool
  freezeGiver : Option Station
  pendingRequest : Bool
  dumpState : DumpState
  attempts : Nat
  cursor : DumpCursor
  deriving DecidableEq, Repr

/-- Table 7-1 after hard reset. -/
def DivUnit.reset : DivUnit where
  ownDigest := none
  reference := none
  giverCandidate := none
  candidates := #v[none, none, none, none]
  requestCycle := false
  nextMark := false
  freezeCount := 0
  freezeFlag := false
  freezeGiver := none
  pendingRequest := false
  dumpState := .none
  attempts := 0
  cursor := .done

/-! ### Message pool -/

/-- A relay in the RELAY queue, with its age in tail starts (R150, R152). -/
structure RelayMsg where
  dest : Station
  payload : List Byte
  age : Nat
  deriving DecidableEq, Repr

/-- A drop record (R159). -/
structure DropRecord where
  cls : SharedClass
  reason : DropReason
  msgKind : Byte
  peer : Option Station
  cycle : Half
  deriving DecidableEq, Repr

/-- The message pool (Table 8-2). -/
structure Pool where
  control : List Msg
  transaction : List Msg
  state : List Msg
  relay : List RelayMsg
  relayHold : Bool
  dropA : Option DropRecord
  dropB : Option DropRecord
  dropsTransaction : Nat
  dropsState : Nat
  dropsRelay : Nat
  dropsInbound : Nat
  deriving DecidableEq, Repr

/-! ### Panel controller -/

/-- An entry record of a scanout transfer (Table 9-5). -/
structure ScanEntry where
  surf : Surf
  appTag : Half
  region : Region
  offset : Nat
  placeholder : Bool
  deriving DecidableEq, Repr

/-- A transfer not yet latched (Table 9-1). -/
structure Outstanding where
  kind : TransferKind
  cycle : Half
  deriving DecidableEq, Repr

/-- The panel controller (Table 9-1), with its outputs at the last cycle start (log entry 12). -/
structure PanelUnit where
  state : PanelState
  blankWait : Nat
  darkMark : Bool
  wakeCount : Nat
  lastList : List ScanEntry
  outstanding : Option Outstanding
  missCount : Nat
  degraded : Bool
  /-- FSYNC was pulsed at the last cycle start. -/
  fsync : Bool
  /-- The bytes clocked out on SO_D at the last cycle start. -/
  scanOut : List Byte
  deriving DecidableEq, Repr

/-! ### Local port -/

/-- TXN_DONE outcomes (Table 4-3). -/
inductive TxnOutcome where
  | committed
  | void (r : Reason)
  | refused (s : Station) (r : Option Reason)
  | cancelled
  | timeout
  | peerLost (s : Station)
  | rehomed
  | resync
  | left
  deriving DecidableEq, Repr

/-- Surface causes (Table 11-1); COMMITTED carries its transaction id (R88). -/
inductive SurfaceCause where
  | committed (id : TxnId)
  | evacuated
  | restored
  | arrivalTimeout
  deriving DecidableEq, Repr

/-- PEER notice events: JOINED with the role, LOST with its cause SILENT or BYE (R61, R63). -/
inductive PeerEvent where
  | joined (r : Role)
  | lostSilent
  | lostBye
  deriving DecidableEq, Repr

/-- Notices (Table 10-6), with the fields of Table 11-5. -/
inductive Notice where
  | created (tag : Byte) (sf : Surf)
  | stateVoid (kind : Byte) (sf : Option Surf) (tag : Byte) (reason : Reason)
  | txnDone (id : TxnId) (sf : Surf) (outcome : TxnOutcome)
  | handoverOffer (id : TxnId) (sf : Surf) (appTag : Half) (owner : Option Station) (origin : Option Target)
      (dest : Placement)
  | surfaceGained (sf : Surf) (appTag : Half) (dest : Placement) (station : Station) (cause : SurfaceCause)
  | surfaceLost (sf : Surf) (appTag : Half) (dest : Placement) (station : Station) (cause : SurfaceCause)
  | surfaceArriving (sf : Surf) (appTag : Half) (dest : Placement) (cyclesLeft : Nat)
  | surfaceParked (sf : Surf) (appTag : Half) (region : Option Region) (ret : Option Placement) (cause : SurfaceCause)
  | posture (new : Posture) (old : Posture) (angle : Nat) (valid : Bool) (cause : PostureCause)
  | angleDisagree (start : Bool) (station : Station) (primary : Nat) (mean : Nat)
  | linkState (state : LinkState) (cause : LinkCause)
  | peer (station : Station) (event : PeerEvent)
  | relayIn (sender : Station) (payload : List Byte)
  | panel (event : PanelEvent) (state : PanelState)
  | latchMissed (kind : TransferKind) (cycle : Half) (misses : Nat) (degraded : Bool)
  | configMismatch (station : Station) (own : Option Word) (theirs : Option Word)
  deriving DecidableEq, Repr

/-- Result codes (Table 10-3); the ones that return more carry it (R177). -/
inductive Result where
  | done
  | queued
  | queuedTxn (id : TxnId)
  | notHalted
  | notActive
  | notPanel
  | badArg
  | badConfig (check : Nat)
  | noSurface
  | locked
  | notOwner
  | noBuffer
  | limit
  | tooLate
  | busy
  | notIdle
  | noReturn
  | destAbsent
  | strict (c : SoftCondition)
  deriving DecidableEq, Repr

/-- One posture rule (R113). -/
structure Rule where
  used : Bool
  restore : Bool
  fallbacks : List Target
  deriving DecidableEq, Repr

/-- The configuration items (Table 10-5). The posture rules stand in the order of the key of Table 10-5. -/
structure ConfigItems where
  panelSet : StationSet
  groups : Vector Nat 4
  spanPair : Option (Station × Station)
  b1 : Nat
  b2 : Nat
  b3 : Nat
  hysteresis : Nat
  dwell : Nat
  rules : Vector Rule 25
  answerWindow : Nat
  offerLimit : Nat
  arrivalLimit : Nat
  strictClipped : Bool
  strictNoChange : Bool
  strictReturnReplaced : Bool
  weighted : Bool
  weightTransaction : Nat
  weightState : Nat
  weightRelay : Nat
  limitHigh : Nat
  limitLow : Nat
  relayCap : Nat
  relayAgeLimit : Nat
  blankIdleLimit : Nat
  wakeTime : Nat
  disagreeLimit : Nat
  disagreeCount : Nat
  deriving DecidableEq, Repr

/-- USED with an empty fallback list. -/
def Rule.keep : Rule := ⟨true, false, []⟩

/-- USED, RESTORE. -/
def Rule.back : Rule := ⟨true, true, []⟩

/-- UNUSED with a fallback list. -/
def Rule.away (fallbacks : List Target) : Rule := ⟨false, false, fallbacks⟩

/-- Table 6-1, in posture order CLOSED, PEEK, BOOK, FLAT, UNKNOWN and column order 0, 1, 2, 3, SPAN. -/
def defaultRules : Vector Rule 25 :=
  #v[.away [.panel 2], .away [.panel 2], .keep, .keep, .away [.panel 2],
     .back, .back, .keep, .keep, .away [.panel 0],
     .back, .back, .away [.panel 0, .panel 1], .keep, .away [.panel 0],
     .back, .back, .away [.span, .panel 0], .keep, .back,
     .keep, .keep, .keep, .keep, .keep]

/-- The defaults of Table 10-5. -/
def ConfigItems.default : ConfigItems where
  panelSet := 0b0111
  groups := #v[1, 1, 2, 0]
  spanPair := some (0, 1)
  b1 := 150
  b2 := 700
  b3 := 1500
  hysteresis := 30
  dwell := 3
  rules := defaultRules
  answerWindow := 12
  offerLimit := 8
  arrivalLimit := 30
  strictClipped := false
  strictNoChange := false
  strictReturnReplaced := false
  weighted := false
  weightTransaction := 3
  weightState := 2
  weightRelay := 1
  limitHigh := 14
  limitLow := 8
  relayCap := 2
  relayAgeLimit := 32
  blankIdleLimit := 10
  wakeTime := 4
  disagreeLimit := 150
  disagreeCount := 8

/-- The capture record when filled (R183): command kind, surface (none for CREATE), condition. -/
structure Capture where
  command : Byte
  sf : Option Surf
  condition : SoftCondition
  deriving DecidableEq, Repr

/-- Completion of an access (R178). -/
inductive Completion where
  | complete
  | requestCut
  | replyCut
  deriving DecidableEq, Repr

/-- The last-access record when filled (R178). -/
structure LastAccess where
  kind : Option Byte
  command : Option Byte
  result : Option Byte
  completion : Completion
  deriving DecidableEq, Repr

/-- An access whose access event has been taken and whose CS_N has not yet risen, with its reply (R176). -/
structure Access where
  kind : Byte
  command : Option Byte
  reply : List Byte
  deriving DecidableEq, Repr

/-- The local port. -/
structure Port where
  notices : List Notice
  overrun : Bool
  cfg : ConfigItems
  locked : Bool
  configDigest : Option Word
  adjClipped : Bool
  adjNoChange : Bool
  adjReturnReplaced : Bool
  capture : Option Capture
  lastAccess : Option LastAccess
  access : Option Access
  deriving DecidableEq, Repr

end Sys2Proof.Machine
end

