-- ==== Sys2Proof/Machine/Operands.lean ====
section
/-! DEFINITION. Operand forms: the code sets as bytes (Table 11-1), grids and the clip (R4), region modes, message
bodies (Table 11-3), frames (Table 11-2), and configuration values (Table 11-6). -/

namespace Sys2Proof.Machine

/-! ### Code sets to bytes -/

def stationByte (s : Station) : Byte := natByte s.val

def optStationByte : Option Station → Byte
  | some s => stationByte s
  | none => 0xFF

def targetByte : Target → Byte
  | .panel s => stationByte s
  | .span => 4

def optTargetByte : Option Target → Byte
  | some t => targetByte t
  | none => 0xFF

def regionBytes (r : Region) : List Byte := [natByte r.x, natByte r.y, natByte r.w, natByte r.h]

def optRegionBytes : Option Region → List Byte
  | some r => regionBytes r
  | none => [0xFF, 0xFF, 0xFF, 0xFF]

def placementBytes (p : Placement) : List Byte := targetByte p.target :: regionBytes p.region

def optPlacementBytes : Option Placement → List Byte
  | some p => placementBytes p
  | none => [0xFF, 0xFF, 0xFF, 0xFF, 0xFF]

def txnIdBytes (i : TxnId) : List Byte := [stationByte i.orig, i.seq]

def optTxnIdBytes : Option TxnId → List Byte
  | some i => txnIdBytes i
  | none => [0xFF, 0xFF]

/-- Surface id of a surface: 1..16. -/
def surfByte (sf : Surf) : Byte := natByte (sf.val + 1)

def optSurfByte : Option Surf → Byte
  | some sf => surfByte sf
  | none => 0

def setByte (ss : StationSet) : Byte := ss.setWidth 8

def entryStateByte : EntryState → Byte
  | .free => 0
  | .placed => 1
  | .parked => 2

def linkStateByte : LinkState → Byte
  | .halted => 0
  | .listen => 1
  | .coldstart => 2
  | .integrating => 3
  | .active => 4
  | .resync => 5

def roleByte : Role → Byte
  | .panel => 0
  | .sensor => 1

def angleKindByte : AngleKind → Byte
  | .none => 0
  | .primary => 1
  | .secondary => 2

def rateByte : Rate → Byte
  | .r48 => 0
  | .r60 => 1
  | .r90 => 2
  | .r120 => 3

def panelStateByte : PanelState → Byte
  | .lit => 0
  | .blankPending => 1
  | .dark => 2
  | .waking => 3

def bandByte : Band → Byte
  | .closed => 1
  | .peek => 2
  | .book => 3
  | .flat => 4

def postureByte : Posture → Byte
  | .unknown => 0
  | .band b => bandByte b

def candidateByte : Option Band → Byte
  | none => 0
  | some b => bandByte b

def reasonByte : Reason → Byte
  | .frozen => 1
  | .noSurface => 3
  | .locked => 4
  | .noReturn => 5
  | .tableFull => 6
  | .destAbsent => 7
  | .noRoom => 8
  | .notOwner => 9
  | .panelDark => 10
  | .declined => 11
  | .hostTimeout => 12

def optReasonByte : Option Reason → Byte
  | some r => reasonByte r
  | none => 0

def linkCauseByte : LinkCause → Byte
  | .start => 1
  | .syncLost => 2
  | .clash => 3
  | .noPace => 4
  | .listenExpired => 5
  | .paceHeard => 6
  | .coldstartDone => 7
  | .integrated => 8
  | .joined => 9
  | .resynced => 10
  | .diverged => 11
  | .leave => 12
  | .giveUp => 13

def postureCauseByte : PostureCause → Byte
  | .band => 1
  | .stale => 2
  | .dump => 3

def panelEventByte : PanelEvent → Byte
  | .dark => 1
  | .lit => 2
  | .blankRefused => 3
  | .blankCancelled => 4
  | .recovered => 5

def softByte : SoftCondition → Byte
  | .clipped => 1
  | .noChange => 2
  | .returnReplaced => 3

def classByte : SharedClass → Byte
  | .transaction => 1
  | .state => 2
  | .relay => 3

def dropReasonByte : DropReason → Byte
  | .poolFull => 1
  | .classLimit => 2
  | .relayAged => 3
  | .destLost => 4
  | .inboundFull => 5

def linkErrorByte : LinkError → Byte
  | .length => 1
  | .frameCheck => 2
  | .late => 3
  | .clash => 4
  | .syncLost => 5

def directionByte : Direction → Byte
  | .front => 0
  | .back => 1

def reqReasonByte : ReqReason → Byte
  | .join => 1
  | .diverged => 2

def transferKindByte : TransferKind → Byte
  | .list => 1
  | .off => 2

def dumpStateByte : DumpState → Byte
  | .none => 0
  | .asked => 1
  | .waiting => 2
  | .collecting _ => 3

def outcomeByte : TxnOutcome → Byte
  | .committed => 1
  | .void _ => 2
  | .refused _ _ => 3
  | .cancelled => 4
  | .timeout => 5
  | .peerLost _ => 6
  | .rehomed => 7
  | .resync => 8
  | .left => 9

def causeByte : SurfaceCause → Byte
  | .committed _ => 1
  | .evacuated => 2
  | .restored => 3
  | .arrivalTimeout => 4

def completionByte : Completion → Byte
  | .complete => 1
  | .requestCut => 2
  | .replyCut => 3

/-! ### Bytes to code sets -/

def toStation (b : Byte) : Option Station := if h : b.toNat < 4 then some ⟨b.toNat, h⟩ else none

def toTarget (b : Byte) : Option Target :=
  match toStation b with
  | some s => some (.panel s)
  | none => if b = 4 then some .span else none

/-- The surface with an id, for an id 1..16. -/
def toSurf (b : Byte) : Option Surf :=
  if h : 1 ≤ b.toNat ∧ b.toNat ≤ 16 then some ⟨b.toNat - 1, by omega⟩ else none

def toFlag (b : Byte) : Bool := b != 0

def toRegion (x y w h : Byte) : Region := ⟨x.toNat, y.toNat, w.toNat, h.toNat⟩

def toTxnId (o q : Byte) : Option TxnId := (toStation o).map (fun s => ⟨s, q⟩)

def toLinkState (b : Byte) : Option LinkState :=
  if b = 2 then some .coldstart else if b = 3 then some .integrating else if b = 4 then some .active
  else if b = 5 then some .resync else none

def toRole (b : Byte) : Option Role := if b = 0 then some .panel else if b = 1 then some .sensor else none

def toAngleKind (b : Byte) : Option AngleKind :=
  if b = 0 then some .none else if b = 1 then some .primary else if b = 2 then some .secondary else none

def toPanelState (b : Byte) : Option PanelState :=
  if b = 0 then some .lit else if b = 1 then some .blankPending else if b = 2 then some .dark
  else if b = 3 then some .waking else none

def toBand (b : Byte) : Option Band :=
  if b = 1 then some .closed else if b = 2 then some .peek else if b = 3 then some .book
  else if b = 4 then some .flat else none

def toPosture (b : Byte) : Option Posture := if b = 0 then some .unknown else (toBand b).map .band

def toCandidate (b : Byte) : Option (Option Band) := if b = 0 then some none else (toBand b).map some

/-- The reason of a REFUSE: the outer `none` for a code with no assigned meaning (2 is not used). -/
def toReason (b : Byte) : Option (Option Reason) :=
  if b = 0 then some none else if b = 1 then some (some .frozen) else if b = 3 then some (some .noSurface)
  else if b = 4 then some (some .locked) else if b = 5 then some (some .noReturn)
  else if b = 6 then some (some .tableFull) else if b = 7 then some (some .destAbsent)
  else if b = 8 then some (some .noRoom) else if b = 9 then some (some .notOwner)
  else if b = 10 then some (some .panelDark) else if b = 11 then some (some .declined)
  else if b = 12 then some (some .hostTimeout) else none

def toDirection (b : Byte) : Option Direction := if b = 0 then some .front else if b = 1 then some .back else none

def toReqReason (b : Byte) : Option ReqReason := if b = 1 then some .join else if b = 2 then some .diverged else none

def toEntryState (b : Byte) : Option EntryState :=
  if b = 0 then some .free else if b = 1 then some .placed else if b = 2 then some .parked else none

/-! ### Sets of stations -/

def memSet (ss : StationSet) (k : Station) : Bool := ss.getLsbD k.val

def addSet (ss : StationSet) (k : Station) : StationSet := ss ||| (1#4 <<< k.val)

def setOf (ks : List Station) : StationSet := ks.foldl addSet 0

/-- The four station numbers in order. -/
def stations : List Station := [0, 1, 2, 3]

/-- The sixteen surfaces in id order. -/
def surfs : List Surf := [0, 1, 2, 3, 4, 5, 6, 7, 8, 9, 10, 11, 12, 13, 14, 15]

/-! ### Grids and regions (section 4.4 of 00_scope.md, R4) -/

/-- Columns of a target's grid. -/
def gridCols : Target → Nat
  | .panel _ => 24
  | .span => 48

/-- Rows of every grid. -/
def gridRows : Nat := 32

/-- A valid region of a grid of `cols` columns. -/
def Region.inGrid (r : Region) (cols : Nat) : Bool :=
  1 ≤ r.w && 1 ≤ r.h && r.x + r.w ≤ cols && r.y + r.h ≤ gridRows

/-- The whole grid of a target. -/
def fullRegion (t : Target) : Region := ⟨0, 0, gridCols t, gridRows⟩

/-- A rectangle of a command, before the clip. -/
structure Rect where
  x : Int
  y : Int
  w : Int
  h : Int
  deriving DecidableEq, Repr

def Region.rect (r : Region) : Rect := ⟨r.x, r.y, r.w, r.h⟩

/-- The clip of a rectangle to a grid (R4): none where the intersection holds no cell. -/
def clip (cols : Nat) (q : Rect) : Option Region :=
  let left := max q.x 0
  let top := max q.y 0
  let right := min (q.x + q.w) cols
  let bottom := min (q.y + q.h) gridRows
  if left < right ∧ top < bottom then
    some ⟨left.toNat, top.toNat, (right - left).toNat, (bottom - top).toNat⟩
  else none

/-- The region of an accepted command: the clip, where w and h are above 0 and the clip is not empty (check 6 of R21
and R75), with whether the clip changed the rectangle. -/
def clipArg (cols : Nat) (q : Rect) : Option (Region × Bool) :=
  if q.w ≤ 0 ∨ q.h ≤ 0 then none
  else (clip cols q).map (fun r => (r, r.rect != q))

/-- The reference grid of a surface (R4). -/
def refCols (e : Entry) : Nat :=
  match e.state, e.target with
  | .placed, some t => gridCols t
  | _, _ => 48

/-- An ABS region of a command: each value lies in 0..63 (R21, R74, R192). -/
def absRect (a b c d : Byte) : Option Rect :=
  if a.toNat ≤ 63 ∧ b.toNat ≤ 63 ∧ c.toNat ≤ 63 ∧ d.toNat ≤ 63 then
    some ⟨a.toNat, b.toNat, c.toNat, d.toNat⟩
  else none

/-- A REL offset is a two's complement byte in −63..63 (R192). -/
def relOffset (b : Byte) : Option Int := if -63 ≤ b.toInt ∧ b.toInt ≤ 63 then some b.toInt else none

/-- A REL rectangle: the present region with the offset added to each of its four values (R21, R74). -/
def relRect (r : Region) (a b c d : Byte) : Option Rect := do
  let dx ← relOffset a
  let dy ← relOffset b
  let dw ← relOffset c
  let dh ← relOffset d
  return ⟨r.x + dx, r.y + dy, r.w + dw, r.h + dh⟩

/-- The rectangle of a region mode: 0 ABS, 1 REL, 2 FULL where a target's whole grid is allowed; none for a mode with
no assigned meaning (R192). -/
def modeRect (mode : Byte) (present : Region) (full : Option Region) (a b c d : Byte) : Option Rect :=
  if mode = 0 then absRect a b c d
  else if mode = 1 then relRect present a b c d
  else if mode = 2 then full.map Region.rect
  else none

/-! ### Targets under the configuration -/

/-- The stations of a target (key of Table 4-1): itself, or the span pair in ascending order. -/
def destStations (cfg : ConfigItems) : Target → List Station
  | .panel s => [s]
  | .span =>
    match cfg.spanPair with
    | some (a, b) => if a ≤ b then [a, b] else [b, a]
    | none => []

/-- The lower-numbered station of the span pair. -/
def spanLow (cfg : ConfigItems) : Option Station := (destStations cfg .span).head?

/-- The owner that a placement on a target gives (R3). -/
def targetOwner (cfg : ConfigItems) (t : Target) : Option Station := (destStations cfg t).head?

/-- A target that the configuration has: a station of the panel station set, or SPAN where a span pair is set. -/
def targetConfigured (cfg : ConfigItems) : Target → Bool
  | .panel s => memSet cfg.panelSet s
  | .span => cfg.spanPair.isSome

/-- A placement inside the grid of a configured target. -/
def placementOk (cfg : ConfigItems) (p : Placement) : Bool :=
  targetConfigured cfg p.target && p.region.inGrid (gridCols p.target)

/-! ### Message bodies (Table 11-3) -/

/-- The kind code of a message. -/
def Msg.kindByte : Msg → Byte
  | .create .. => 0x01
  | .destroy .. => 0x02
  | .setVisible .. => 0x03
  | .restack .. => 0x04
  | .resize .. => 0x05
  | .arrived .. => 0x06
  | .proposeMove .. => 0x10
  | .proposeReturn .. => 0x10
  | .cancel .. => 0x11
  | .ready .. => 0x20
  | .refuse .. => 0x21
  | .resyncReq .. => 0x22
  | .dump .. => 0x30
  | .dumpEnd .. => 0x31
  | .relay .. => 0x40

/-- The posture state as six bytes (key of Table 11-3). -/
def postureStateBytes (p : PostureState) : List Byte :=
  [postureByte p.posture, candidateByte p.candidate, natByte p.dwell, flagByte p.distrust, natByte p.distrustRun,
   natByte p.stale]

/-- The fields of an entry that a DUMP record and the digest share, from the entry state to the return region. -/
def entryFieldBytes (e : Entry) : List Byte :=
  [entryStateByte e.state] ++ halfBytes e.appTag ++ [optStationByte e.owner, optTargetByte e.target]
    ++ optRegionBytes e.region ++ [flagByte e.visible, natByte (e.arriving.getD 0), flagByte e.implicit]
    ++ optPlacementBytes e.ret

/-- The body of a message. -/
def Msg.body : Msg → List Byte
  | .create tag appTag r v => [tag] ++ halfBytes appTag ++ regionBytes r ++ [flagByte v]
  | .destroy sf => [surfByte sf]
  | .setVisible sf v => [surfByte sf, flagByte v]
  | .restack sf d => [surfByte sf, directionByte d]
  | .resize sf r => surfByte sf :: regionBytes r
  | .arrived sf => [surfByte sf]
  | .proposeMove i sf p f => [0] ++ txnIdBytes i ++ [surfByte sf] ++ placementBytes p ++ [flagByte f]
  | .proposeReturn i sf => [1] ++ txnIdBytes i ++ [surfByte sf]
  | .cancel i => txnIdBytes i
  | .ready i => txnIdBytes i
  | .refuse i r => txnIdBytes i ++ [optReasonByte r]
  | .resyncReq r => [reqReasonByte r]
  | .dump d => surfByte d.surf :: (entryFieldBytes d.entry ++ d.z.toList.map natByte)
  | .dumpEnd n p w => [natByte n] ++ postureStateBytes p ++ wordBytes w
  | .relay s p => stationByte s :: p

/-- A message as sent: kind, length, body (R31). -/
def Msg.bytes (m : Msg) : List Byte := [m.kindByte, natByte m.body.length] ++ m.body

/-- The body length of a kind is the one Table 11-3 gives (R36, R190); false for a kind with no code. -/
def bodyLengthOk (kind : Byte) (body : List Byte) : Bool :=
  let n := body.length
  if kind = 0x01 then n == 8
  else if kind = 0x02 then n == 1
  else if kind = 0x03 then n == 2
  else if kind = 0x04 then n == 2
  else if kind = 0x05 then n == 5
  else if kind = 0x06 then n == 1
  else if kind = 0x10 then
    (match body with
      | k :: _ => (k == 1 && n == 4) || (k == 0 && n == 10)
      | [] => false)
  else if kind = 0x11 then n == 2
  else if kind = 0x20 then n == 2
  else if kind = 0x21 then n == 3
  else if kind = 0x22 then n == 1
  else if kind = 0x30 then n == 22
  else if kind = 0x31 then n == 11
  else if kind = 0x40 then 2 ≤ n && n ≤ 25
  else false

/-- An optional station field: 0xFF absent. -/
def toOptStation (b : Byte) : Option (Option Station) := if b = 0xFF then some none else (toStation b).map some

/-- An optional target field: 0xFF absent. -/
def toOptTarget (b : Byte) : Option (Option Target) := if b = 0xFF then some none else (toTarget b).map some

/-- An optional region field: 0xFF four times absent. -/
def toOptRegion (x y w h : Byte) : Option Region :=
  if x = 0xFF ∧ y = 0xFF ∧ w = 0xFF ∧ h = 0xFF then none else some (toRegion x y w h)

/-- The return placement of a DUMP record: target and region both present or both absent. -/
def toOptPlacement (t : Option Target) (r : Option Region) : Option (Option Placement) :=
  match t, r with
  | some t, some r => some (some ⟨t, r⟩)
  | none, none => some none
  | _, _ => none

/-- The content of a DUMP body. -/
def decodeDump : List Byte → Option Msg
  | [sf, st, a1, a0, ow, tg, x, y, w, h, vis, arr, imp, rt, rx, ry, rw, rh, z0, z1, z2, z3] => do
    let sf ← toSurf sf
    let st ← toEntryState st
    let ow ← toOptStation ow
    let tg ← toOptTarget tg
    let rt ← toOptTarget rt
    let ret ← toOptPlacement rt (toOptRegion rx ry rw rh)
    return .dump
      { surf := sf
        entry :=
          { state := st, appTag := toHalf a1 a0, owner := ow, target := tg, region := toOptRegion x y w h
            visible := toFlag vis, arriving := if arr = 0 then none else some arr.toNat, implicit := toFlag imp
            ret := ret, lock := none }
        z := #v[z0.toNat, z1.toNat, z2.toNat, z3.toNat] }
  | _ => none

/-- The content of a DUMP_END body. -/
def decodeDumpEnd : List Byte → Option Msg
  | [n, po, ca, dw, di, dr, st, d3, d2, d1, d0] => do
    let po ← toPosture po
    let ca ← toCandidate ca
    return .dumpEnd n.toNat
      { posture := po, candidate := ca, dwell := dw.toNat, distrust := toFlag di, distrustRun := dr.toNat
        stale := st.toNat } (toWord d3 d2 d1 d0)
  | _ => none

/-- The content of a PROPOSE body. -/
def decodePropose : List Byte → Option Msg
  | [_, o, q, sf] => do
    let i ← toTxnId o q
    let sf ← toSurf sf
    return .proposeReturn i sf
  | [_, o, q, sf, t, x, y, w, h, f] => do
    let i ← toTxnId o q
    let sf ← toSurf sf
    let t ← toTarget t
    return .proposeMove i sf ⟨t, toRegion x y w h⟩ (toFlag f)
  | _ => none

/-- The content of a message body whose length is right for its kind: none where it holds a value with no assigned
meaning (R190), and, as a DESIGN CHOICE of log entry 42, where the surface id lies outside 1..16. -/
def decodeMsg (kind : Byte) (body : List Byte) : Option Msg :=
  if kind = 0x01 then
    (match body with
      | [tag, a1, a0, x, y, w, h, v] => some (.create tag (toHalf a1 a0) (toRegion x y w h) (toFlag v))
      | _ => none)
  else if kind = 0x02 then
    (match body with
      | [sf] => (toSurf sf).map .destroy
      | _ => none)
  else if kind = 0x03 then
    (match body with
      | [sf, v] => (toSurf sf).map (fun sf => .setVisible sf (toFlag v))
      | _ => none)
  else if kind = 0x04 then
    (match body with
      | [sf, d] => (toSurf sf).bind (fun sf => (toDirection d).map (.restack sf))
      | _ => none)
  else if kind = 0x05 then
    (match body with
      | [sf, x, y, w, h] => (toSurf sf).map (fun sf => .resize sf (toRegion x y w h))
      | _ => none)
  else if kind = 0x06 then
    (match body with
      | [sf] => (toSurf sf).map .arrived
      | _ => none)
  else if kind = 0x10 then decodePropose body
  else if kind = 0x11 then
    (match body with
      | [o, q] => (toTxnId o q).map .cancel
      | _ => none)
  else if kind = 0x20 then
    (match body with
      | [o, q] => (toTxnId o q).map .ready
      | _ => none)
  else if kind = 0x21 then
    (match body with
      | [o, q, r] => (toTxnId o q).bind (fun i => (toReason r).map (.refuse i))
      | _ => none)
  else if kind = 0x22 then
    (match body with
      | [r] => (toReqReason r).map .resyncReq
      | _ => none)
  else if kind = 0x30 then decodeDump body
  else if kind = 0x31 then decodeDumpEnd body
  else if kind = 0x40 then
    (match body with
      | d :: p => (toStation d).map (fun s => .relay s p)
      | _ => none)
  else none

/-- A message with its kind, as it is handed on from a heard frame. -/
def Msg.heard (m : Msg) : HeardMsg := ⟨m.kindByte, some m⟩

/-! ### What a message may say (log entry 17) -/

/-- The fields of an entry agree with Table 1-2 for a PLACED or PARKED entry, under the configuration. -/
def entryConforms (cfg : ConfigItems) (e : Entry) : Bool :=
  (match e.state, e.target, e.region with
    | .placed, some t, some r => placementOk cfg ⟨t, r⟩
    | .parked, none, some r => r.inGrid 48 && e.arriving.isNone
    | _, _, _ => false)
  && e.owner.isSome
  && (match e.ret with
    | some p => placementOk cfg p
    | none => true)

/-- The ranges of Table 5-1. -/
def postureStateOk (p : PostureState) : Bool := p.dwell ≤ 15 && p.distrustRun ≤ 32 && p.stale ≤ 10

/-- A message whose fields the rules give a meaning when `sender` sends it: a message that a 412 could send. Any other
is ignored like a value with no assigned meaning (R190). DEDUCED: log entry 17. -/
def Msg.meaningful (cfg : ConfigItems) (sender : Station) : Msg → Bool
  | .create _ _ r _ => memSet cfg.panelSet sender && r.inGrid 24
  | .proposeMove i _ p _ => i.orig == sender && placementOk cfg p
  | .proposeReturn i _ => i.orig == sender
  | .dump d => entryConforms cfg d.entry
  | .dumpEnd _ p _ => postureStateOk p
  | .destroy _ | .setVisible _ _ | .restack _ _ | .resize _ _ | .arrived _ | .cancel _ | .ready _ | .refuse _ _
  | .resyncReq _ | .relay _ _ => true

/-! ### Slot frames (Table 11-2) -/

/-- A frame taken apart by its lengths. -/
structure RawFrame where
  header : Header
  msgs : List (Byte × List Byte)
  check : Half
  deriving DecidableEq, Repr

/-- Take `n` messages from the bytes after the header; what is left follows them. -/
def splitMsgs : Nat → List Byte → Option (List (Byte × List Byte) × List Byte)
  | 0, bs => some ([], bs)
  | n + 1, kind :: len :: bs =>
    if len.toNat ≤ 30 ∧ len.toNat ≤ bs.length ∧ bodyLengthOk kind (bs.take len.toNat) = true then
      (splitMsgs n (bs.drop len.toNat)).map (fun r => ((kind, bs.take len.toNat) :: r.1, r.2))
    else none
  | _ + 1, _ => none

/-- A sample of a header: an angle value outside 0..1850 counts as invalid (log entry 18). -/
def headerSample (kind : AngleKind) (valid : Bool) (value : Nat) : Sample :=
  ⟨kind, valid && value ≤ 1850, value⟩

/-- The fields of a header of 19 bytes: none where a field has no assigned code (R190). -/
def decodeHeader (sn ro ls c1 c0 fl ps ak a1 a0 : Byte) (config table : Word) : Option Header := do
  let sn ← toStation sn
  let ro ← toRole ro
  let ls ← toLinkState ls
  let ps ← toPanelState ps
  let ak ← toAngleKind ak
  return {
    station := sn
    role := ro
    state := ls
    cycle := toHalf c1 c0
    coldstart := fl.getLsbD 0
    bye := fl.getLsbD 1
    relayHold := fl.getLsbD 2
    degraded := fl.getLsbD 3
    frozen := fl.getLsbD 4
    panelState := ps
    sample := headerSample ak (fl.getLsbD 7) (toHalf a1 a0).toNat
    configDigest := if fl.getLsbD 6 then none else some config
    tableDigest := if fl.getLsbD 5 then none else some table }

/-- A frame by its lengths: none where it fails LENGTH by its bytes (R36, R190). -/
def parseFrame : List Byte → Option RawFrame
  | sn :: ro :: ls :: c1 :: c0 :: fl :: ps :: ak :: a1 :: a0 :: k3 :: k2 :: k1 :: k0 :: t3 :: t2 :: t1 :: t0 :: n
      :: rest => do
    let h ← decodeHeader sn ro ls c1 c0 fl ps ak a1 a0 (toWord k3 k2 k1 k0) (toWord t3 t2 t1 t0)
    if n.toNat ≤ 6 then
      let (ms, tail) ← splitMsgs n.toNat rest
      match tail with
      | [f1, f0] => some ⟨h, ms, toHalf f1 f0⟩
      | _ => none
    else none
  | _ => none

/-- The flags byte of a header. -/
def headerFlags (h : Header) : Byte :=
  (flagByte h.coldstart) ||| (flagByte h.bye <<< 1) ||| (flagByte h.relayHold <<< 2) ||| (flagByte h.degraded <<< 3)
    ||| (flagByte h.frozen <<< 4) ||| (flagByte h.tableDigest.isNone <<< 5) ||| (flagByte h.configDigest.isNone <<< 6)
    ||| (flagByte h.sample.valid <<< 7)

/-- The bytes of a header with its message count (Table 11-2). -/
def headerBytes (h : Header) (count : Nat) : List Byte :=
  [stationByte h.station, roleByte h.role, linkStateByte h.state] ++ halfBytes h.cycle
    ++ [headerFlags h, panelStateByte h.panelState, angleKindByte h.sample.kind] ++ natHalf h.sample.value
    ++ wordBytes (h.configDigest.getD 0) ++ wordBytes (h.tableDigest.getD 0) ++ [natByte count]

/-- A whole slot frame: header, messages, frame check (R31). -/
def frameBytes (h : Header) (ms : List Msg) : List Byte :=
  let body := headerBytes h ms.length ++ (ms.map Msg.bytes).flatten
  body ++ halfBytes (crc16 body)

/-- A frame's messages as they are handed on. -/
def RawFrame.frame (f : RawFrame) : Frame := ⟨f.header, f.msgs.map (fun m => ⟨m.1, decodeMsg m.1 m.2⟩)⟩

/-! ### Configuration values (Table 11-6) -/

/-- A value of one byte, in byte 3. -/
def value1 (v3 v2 v1 v0 : Byte) : Option Nat := if v3 = 0 ∧ v2 = 0 ∧ v1 = 0 then some v0.toNat else none

/-- A value of two bytes, in bytes 2 and 3. -/
def value2 (v3 v2 v1 v0 : Byte) : Option Nat := if v3 = 0 ∧ v2 = 0 then some (toHalf v1 v0).toNat else none

/-- A value in its range. -/
def inRange (lo hi : Nat) (v : Option Nat) : Option Nat := v.filter (fun n => lo ≤ n && n ≤ hi)

/-- A posture rule value: byte 0 bit 0 USED, bit 1 RESTORE, byte 1 the fallback count, bytes 2 and 3 the targets. -/
def toRule (b0 b1 b2 b3 : Byte) : Option Rule :=
  if b0.toNat ≤ 3 then
    let used := b0.getLsbD 0
    let restore := b0.getLsbD 1
    if b1 = 0 then some ⟨used, restore, []⟩
    else if b1 = 1 then (toTarget b2).map (fun t => ⟨used, restore, [t]⟩)
    else if b1 = 2 then (toTarget b2).bind (fun t => (toTarget b3).map (fun u => ⟨used, restore, [t, u]⟩))
    else none
  else none

/-- A span pair value: two different stations, or none. -/
def toSpanPair (b0 b1 b2 b3 : Byte) : Option (Option (Station × Station)) :=
  if b0 = 0 ∧ b1 = 0 then
    if b2 = 0xFF ∧ b3 = 0xFF then some none
    else (toStation b2).bind (fun a => (toStation b3).bind (fun b => if a = b then none else some (some (a, b))))
  else none

/-- SET_CONFIG of one item: none where the item number has no item, or the value lies outside its range (R180). That a bit
of the strict mask or of a posture rule that Table 11-6 does not name is out of range is DEDUCED, log entry 28. -/
def setItem (c : ConfigItems) (item : Byte) (v0 v1 v2 v3 : Byte) : Option ConfigItems :=
  let one (lo hi : Nat) := inRange lo hi (value1 v0 v1 v2 v3)
  let two (lo hi : Nat) := inRange lo hi (value2 v0 v1 v2 v3)
  let n := item.toNat
  if n = 1 then (one 0 15).map (fun x => { c with panelSet := BitVec.ofNat 4 x })
  else if n = 2 then (one 0 4).map (fun x => { c with groups := c.groups.set 0 x })
  else if n = 3 then (one 0 4).map (fun x => { c with groups := c.groups.set 1 x })
  else if n = 4 then (one 0 4).map (fun x => { c with groups := c.groups.set 2 x })
  else if n = 5 then (one 0 4).map (fun x => { c with groups := c.groups.set 3 x })
  else if n = 6 then (toSpanPair v0 v1 v2 v3).map (fun x => { c with spanPair := x })
  else if n = 7 then (two 1 1850).map (fun x => { c with b1 := x })
  else if n = 8 then (two 1 1850).map (fun x => { c with b2 := x })
  else if n = 9 then (two 1 1850).map (fun x => { c with b3 := x })
  else if n = 10 then (two 0 100).map (fun x => { c with hysteresis := x })
  else if n = 11 then (two 1 15).map (fun x => { c with dwell := x })
  else if h : 12 ≤ n ∧ n ≤ 36 then
    (toRule v0 v1 v2 v3).map (fun x => { c with rules := c.rules.set (n - 12) x (by omega) })
  else if n = 37 then (one 4 63).map (fun x => { c with answerWindow := x })
  else if n = 38 then (one 1 61).map (fun x => { c with offerLimit := x })
  else if n = 39 then (one 2 255).map (fun x => { c with arrivalLimit := x })
  else if n = 40 then
    (one 0 7).map (fun x =>
      { c with strictClipped := x.testBit 0, strictNoChange := x.testBit 1, strictReturnReplaced := x.testBit 2 })
  else if n = 41 then (one 0 1).map (fun x => { c with weighted := x == 1 })
  else if n = 42 then (one 1 4).map (fun x => { c with weightTransaction := x })
  else if n = 43 then (one 1 4).map (fun x => { c with weightState := x })
  else if n = 44 then (one 1 4).map (fun x => { c with weightRelay := x })
  else if n = 45 then (one 1 20).map (fun x => { c with limitHigh := x })
  else if n = 46 then (one 1 20).map (fun x => { c with limitLow := x })
  else if n = 47 then (one 0 6).map (fun x => { c with relayCap := x })
  else if n = 48 then (one 8 255).map (fun x => { c with relayAgeLimit := x })
  else if n = 49 then (one 0 63).map (fun x => { c with blankIdleLimit := x })
  else if n = 50 then (one 1 15).map (fun x => { c with wakeTime := x })
  else if n = 51 then (two 20 400).map (fun x => { c with disagreeLimit := x })
  else if n = 52 then (two 2 32).map (fun x => { c with disagreeCount := x })
  else none

/-- The 4-byte value of a posture rule; fallback bytes beyond the count are 0xFF (R192). -/
def ruleBytes (r : Rule) : List Byte :=
  [flagByte r.used ||| (flagByte r.restore <<< 1), natByte r.fallbacks.length, optTargetByte r.fallbacks[0]?,
   optTargetByte r.fallbacks[1]?]

/-- The 4-byte values of items 1 to 39 in item order, 156 bytes (R191). -/
def sharedItemBytes (c : ConfigItems) : List Byte :=
  let one (n : Nat) : List Byte := [0, 0, 0, natByte n]
  let two (n : Nat) : List Byte := [0, 0] ++ natHalf n
  [0, 0, 0, setByte c.panelSet]
    ++ (c.groups.toList.map one).flatten
    ++ (match c.spanPair with
        | some (a, b) => [0, 0, stationByte a, stationByte b]
        | none => [0, 0, 0xFF, 0xFF])
    ++ two c.b1 ++ two c.b2 ++ two c.b3 ++ two c.hysteresis ++ two c.dwell
    ++ (c.rules.toList.map ruleBytes).flatten
    ++ one c.answerWindow ++ one c.offerLimit ++ one c.arrivalLimit

/-- The config digest over the shared items (R182). -/
def configDigestOf (c : ConfigItems) : Word := crc32 (sharedItemBytes c)

end Sys2Proof.Machine
end

