-- ==== Sys2Proof/Machine/State.lean ====
section
/-! DEFINITION. The state of one part: the nine blocks of Table 0-2, RESET_N, and the queue of commands; the reasons a
step can stop; and the state right after the release of RESET_N. -/

namespace Sys2Proof.Machine

/-- The state of the part. Every block holds its own state under the manual's names. -/
structure State where
  /-- Link controller (02_the_fold_link.md). -/
  link : LinkUnit
  /-- Station controller (03_station_states_and_the_peer_view.md). -/
  ctl : StationUnit
  /-- Angle and posture unit (05_hinge_angle_and_posture.md). -/
  angle : AngleUnit
  /-- Placement table (01_surfaces_and_the_placement_table.md). -/
  tables : Tables
  /-- Transaction table (04_handover_transactions.md). -/
  txns : TxnUnit
  /-- Divergence monitor (07_divergence_and_resynchronization.md). -/
  div : DivUnit
  /-- Message pool (08_message_pool_and_slot_packing.md). -/
  pool : Pool
  /-- Panel controller (09_panels_and_scanout.md). -/
  panel : PanelUnit
  /-- Local port (10_local_port.md). -/
  port : Port
  /-- The receiver in the running cycle (R30, R41). -/
  rx : Receiver
  /-- What passed on the sensor bus at the end of the last read (R96). -/
  sensorBus : List BusStep
  /-- RESET_N is low (R34, R187). -/
  resetLow : Bool
  /-- The model's own: numbers the free values (log entry 14). -/
  freeCount : Nat
  /-- The model's own: the commands waiting, first in first out (log entry 2). -/
  pending : List Instr
  deriving DecidableEq, Repr

/-- Why a step can stop with a fault: never. The spec gives every command an effect in every state, so no meaning
raises a fault. Safe. -/
inductive Fault where
  deriving DecidableEq, Repr

/-- Why a step can be refused. -/
inductive Refusal where
  /-- Raised by an arm of `exec` whose command has no meaning yet; no arm is left so. Safe. -/
  | notModelled (mnemonic : String)
  deriving DecidableEq, Repr

/-- Every block in its reset state with the given straps, before an AUTO START (R24, R27, R42 to R46, R68, R72, R73, R97 to
R99, R132, R146, R162, R178, R180, R182, R184, R186). No access is under way, even where CS_N is low (DESIGN CHOICE, log
entry 41). -/
def State.ofStraps (p : Straps) : State where
  link :=
    { cycle := 65535, timer := 0, silence := #v[0, 0, 0, 0], heard := 0, settled := 0, sending := none, minor := none
      major := none, laterMajors := 0 }
  ctl :=
    { straps := p, linkState := .halted, pace := none, peers := #v[none, none, none, none], listenCount := 0
      coldstartCount := 0, integrationCount := 0, fullCycle := false, mismatchReported := false, joinPending := false
      clashCount := 0, syncMissCount := 0, syncMissed := 0, leavePending := false }
  angle :=
    { read := .idle, ownSample := ⟨p.angle, false, 0⟩, samples := #v[none, none, none, none], angle := 0
      angleValid := false, ps := PostureState.start, disagreeRun := 0, agreeRun := 0, episode := false }
  tables := Tables.empty
  txns := { table := [], offers := [], ownOpen := 0, seq := 0 }
  div := DivUnit.reset
  pool :=
    { control := [], transaction := [], state := [], relay := [], relayHold := false, dropA := none, dropB := none
      dropsTransaction := 0, dropsState := 0, dropsRelay := 0, dropsInbound := 0 }
  panel :=
    { state := .lit, blankWait := 0, darkMark := false, wakeCount := 0, lastList := [], outstanding := none
      missCount := 0, degraded := false, fsync := false, scanOut := [] }
  port :=
    { notices := [], overrun := false, cfg := ConfigItems.default, locked := false, configDigest := none
      adjClipped := false, adjNoChange := false, adjReturnReplaced := false, capture := none, lastAccess := none
      access := none }
  rx := Receiver.idle
  sensorBus := []
  resetLow := false
  freeCount := 0
  pending := []

/-- The machine right after reset, with every strap pin low (DESIGN CHOICE, log entry 1): station 0, PANEL, no angle
input, 48 cycles per second, AUTO off. -/
def State.reset : State := State.ofStraps (Straps.latch ⟨0, false, 0, 0, false⟩)

end Sys2Proof.Machine
end

