-- ==== Sys2Proof/Machine/Flags.lean ====
section
/-! DEFINITION. Conditions and pins computed from the state: reception modes, pace station, holdings and limits, the
level of INT_N, panel idleness, usable targets. -/

namespace Sys2Proof.Machine

/-! ### Straps and link state -/

/-- The own station number. -/
def State.own (s : State) : Station := s.ctl.straps.station

/-- The role is PANEL. -/
def State.isPanel (s : State) : Bool := s.ctl.straps.role == .panel

/-- An ACTIVE PANEL station: it applies STATE and transaction messages (R12, R54, R78). -/
def State.activePanel (s : State) : Bool := s.isPanel && s.ctl.linkState == .active

/-- A receiving state (Table 2-2). -/
def LinkState.receiving : LinkState → Bool
  | .halted => false
  | .listen | .coldstart | .integrating | .active | .resync => true

/-- A sending state (Table 2-2). -/
def LinkState.sends : LinkState → Bool
  | .halted | .listen => false
  | .coldstart | .integrating | .active | .resync => true

/-- A state of aligned reception (Table 2-2). -/
def LinkState.aligned : LinkState → Bool
  | .halted | .listen | .coldstart => false
  | .integrating | .active | .resync => true

/-- ACTIVE or COLDSTART: a state that qualifies for the pace (R55). -/
def LinkState.paces : LinkState → Bool
  | .active | .coldstart => true
  | .halted | .listen | .integrating | .resync => false

/-- ACTIVE or RESYNC: present for the agreed angle and for re-homing (R54, R98, R114). -/
def LinkState.present : LinkState → Bool
  | .active | .resync => true
  | .halted | .listen | .coldstart | .integrating => false

/-- A tracking station: a PANEL station in ACTIVE, RESYNC or INTEGRATING (R130). -/
def State.tracking (s : State) : Bool := s.isPanel && s.ctl.linkState.aligned

/-! ### Peer view and pace -/

/-- A station number qualifies for the pace, the own one by the own link state (R55). -/
def qualifies (own : Station) (ls : LinkState) (peers : Vector (Option Peer) 4) (k : Station) : Bool :=
  if k = own then ls.paces
  else
    match peers[k] with
    | some p => p.state.paces
    | none => false

/-- The pace station of a peer view (R55). -/
def paceOf (own : Station) (ls : LinkState) (peers : Vector (Option Peer) 4) : Option Station :=
  stations.find? (qualifies own ls peers)

/-- The peer-view entry of a station has the state ACTIVE. -/
def State.peerActive (s : State) (k : Station) : Bool :=
  match s.ctl.peers[k] with
  | some p => p.state == .active
  | none => false

/-- The peer-view entry of a station is ACTIVE with role PANEL. -/
def State.peerTableHolder (s : State) (k : Station) : Bool :=
  match s.ctl.peers[k] with
  | some p => p.state == .active && p.role == .panel
  | none => false

/-- Another station's peer-view state is ACTIVE with role PANEL (R53). -/
def State.otherTableHolder (s : State) : Bool :=
  stations.any (fun k => k != s.own && s.peerTableHolder k)

/-! ### Timing (Table 2-1), in REFCLK periods of 24 a microsecond -/

/-- Cycle length at a rate. -/
def Rate.cycleLength : Rate → Nat
  | .r48 => 500000
  | .r60 => 400000
  | .r90 => 266667
  | .r120 => 200000

/-- Start of a slot after cycle start. -/
def slotStart (k : Station) : Int := 9600 * k.val

/-- Expected frame start of a slot: 20 µs after the slot start. -/
def expectedStart (k : Station) : Int := slotStart k + 480

/-- The slot window of slot `k` runs from 40 µs before the slot start to 360 µs after it (R29). A start at the very tick at
which a window closes is in the next slot's window, after slot 3 in none: DESIGN CHOICE, log entry 46. -/
def inWindow (k : Station) (t : Int) : Bool := slotStart k - 960 ≤ t && t < slotStart k + 8640

/-- The close of a slot window. -/
def windowClose (k : Station) : Int := slotStart k + 8640

/-- The slot whose window holds a time of the own cycle timer. -/
def slotOf (t : Int) : Option Station := stations.find? (fun k => inWindow k t)

/-- Tail start after cycle start. -/
def tailStartTime : Int := 38400

/-- Cycle close after cycle start. -/
def cycleCloseTime : Int := 62400

/-- Time from a frame start to the end of `n` bytes: the preamble of 4 µs and 1 µs a byte. -/
def frameTime (n : Nat) : Int := 96 + 24 * n

/-- Within the start tolerance of 20 µs (R38). -/
def withinTolerance (offset : Int) : Bool := -480 ≤ offset && offset ≤ 480

/-- Within the sync window of 50 µs (R56). -/
def withinSync (offset : Int) : Bool := -1200 ≤ offset && offset ≤ 1200

/-- The periods from the last cycle event to the next cycle start of the own cycle timer. -/
def State.untilCycleStart (s : State) : Int := s.ctl.straps.rate.cycleLength - s.link.timer

/-! ### The receiver (R30, R41) -/

/-- The free reception limit after a frame start (Table 2-1). -/
def freeReceptionLimit : Int := 7200

/-- A frame that started at a position can still be in free reception at another: it started before it, by no more than
the free reception limit (R41). -/
def inFreeReception (t u : Int) : Bool := u - freeReceptionLimit ≤ t && t < u

/-- The reception mode in force for a frame that starts at a position of the own cycle timer (R30, Table 2-2). Where
aligned reception took the place of free reception in this cycle, a frame under way at that moment is finished in free
reception, and every other start is aligned, those before the next cycle start with them. -/
def State.modeAt (s : State) (t : Int) : Option ReceptionMode :=
  match s.ctl.linkState with
  | .halted => none
  | .listen | .coldstart => some .free
  | .integrating | .active | .resync =>
    match s.rx.freeUntil with
    | some u => if inFreeReception t u then some .free else some .aligned
    | none => some .aligned

/-- The own frame is on the link at a position of the own cycle timer (R33, R41). -/
def State.sendsAt (s : State) (t : Int) : Bool :=
  (s.link.sending.isSome && expectedStart s.own ≤ t)
    || (match s.rx.ownFrame with
        | some (a, b) => a ≤ t && t < b
        | none => false)

/-- The receiver looks for a frame start at a position in a mode: it is the mode in force there, and in free reception
the own frame is not on the link (R30, R41). -/
def State.looksFor (s : State) (mode : ReceptionMode) (t : Int) : Bool :=
  s.modeAt t == some mode
    && (match mode with
        | .free => !s.sendsAt t
        | .aligned => true)

/-! ### Pins -/

/-- INT_N is high (R187). -/
def State.intHigh (s : State) : Bool := s.resetLow || s.port.notices.isEmpty

/-- LINK_P and LINK_N are driven: an own frame is being sent (R34). -/
def State.linkDriven (s : State) : Bool := !s.resetLow && s.link.sending.isSome

/-! ### Message pool (R145, R148) -/

/-- The class of a message in the frame being sent: none for the CONTROL class and dump items. -/
def Msg.sharedClass : Msg → Option SharedClass
  | .create .. | .destroy .. | .setVisible .. | .restack .. | .resize .. | .arrived .. => some .state
  | .proposeMove .. | .proposeReturn .. | .cancel .. => some .transaction
  | .relay .. => some .relay
  | .ready .. | .refuse .. | .resyncReq .. | .dump .. | .dumpEnd .. => none

/-- A message of the CONTROL class. -/
def Msg.isControl : Msg → Bool
  | .ready .. | .refuse .. | .resyncReq .. => true
  | .create .. | .destroy .. | .setVisible .. | .restack .. | .resize .. | .arrived .. | .proposeMove ..
  | .proposeReturn .. | .cancel .. | .relay .. | .dump .. | .dumpEnd .. => false

/-- The messages packed into the frame now being sent. -/
def State.packed (s : State) : List Msg :=
  match s.link.sending with
  | some f => f.msgs
  | none => []

/-- Messages of a shared class in its queue. -/
def Pool.queued (p : Pool) : SharedClass → Nat
  | .transaction => p.transaction.length
  | .state => p.state.length
  | .relay => p.relay.length

/-- The holding of a shared class: its queue and its messages in the frame being sent. -/
def State.holding (s : State) (c : SharedClass) : Nat :=
  s.pool.queued c + s.packed.countP (fun m => m.sharedClass == some c)

/-- The holding of the CONTROL class. -/
def State.holdingControl (s : State) : Nat := s.pool.control.length + s.packed.countP Msg.isControl

/-- The three shared holdings together. -/
def State.holdingShared (s : State) : Nat := s.holding .transaction + s.holding .state + s.holding .relay

/-- A shared class is active while its holding is 3 or more. -/
def State.classActive (s : State) (c : SharedClass) : Bool := 3 ≤ s.holding c

/-- Another shared class is active. -/
def State.otherActive (s : State) : SharedClass → Bool
  | .transaction => s.classActive .state || s.classActive .relay
  | .state => s.classActive .transaction || s.classActive .relay
  | .relay => s.classActive .transaction || s.classActive .state

/-- The limit of a shared class. -/
def State.classLimit (s : State) (c : SharedClass) : Nat :=
  if s.otherActive c then s.port.cfg.limitLow else s.port.cfg.limitHigh

/-! ### Stacking lists (R8 to R10) -/

/-- Places reserved in a list by open transactions. -/
def reservedCount (table : List Txn) (k : Station) : Nat := table.countP (fun e => e.reserved.contains k)

/-- A list has a free place. -/
def State.hasFree (s : State) (k : Station) : Bool :=
  s.tables.lists[k].length + reservedCount s.txns.table k < 6

/-- The lists needed for a move of a surface to a target: its destination lists that do not hold it (R10). -/
def State.placesNeeded (s : State) (sf : Surf) (t : Target) : List Station :=
  (destStations s.port.cfg t).filter (fun k => !s.tables.lists[k].contains sf)

/-- Every place needed for a move of a surface to a target is free. -/
def State.roomFor (s : State) (sf : Surf) (t : Target) : Bool := (s.placesNeeded sf t).all s.hasFree

/-- The z position of a surface in a list, 0 where it is not in it. -/
def zPosition (l : List Surf) (sf : Surf) : Nat := if l.contains sf then l.idxOf sf + 1 else 0

/-! ### Panel idleness (R163) -/

/-- A target names a station: it is the station, or SPAN where the station is of the span pair. -/
def targetNames (cfg : ConfigItems) (t : Target) (k : Station) : Bool := (destStations cfg t).contains k

/-- An open entry names the own panel in its from or to. -/
def txnNames (cfg : ConfigItems) (k : Station) (e : Txn) : Bool :=
  targetNames cfg e.dest.target k
    || (match e.origin with
        | some t => targetNames cfg t k
        | none => false)

/-- The own panel is idle. -/
def State.panelIdle (s : State) : Bool :=
  !s.txns.table.any (txnNames s.port.cfg s.own)
    && !(s.tables.lists[s.own]).any (fun sf => (s.tables.entries[sf]).arriving.isSome)

/-! ### Posture rules and usable targets (R113, R114) -/

def postureIndex : Posture → Fin 5
  | .band .closed => 0
  | .band .peek => 1
  | .band .book => 2
  | .band .flat => 3
  | .unknown => 4

def columnIndex : Target → Fin 5
  | .panel s => s.castSucc
  | .span => 4

/-- The rule of a target in a posture. -/
def ConfigItems.rule (c : ConfigItems) (p : Posture) (t : Target) : Rule :=
  c.rules[5 * (postureIndex p).val + (columnIndex t).val]'(by omega)

/-- The rule of a target in the present posture. -/
def State.ruleOf (s : State) (t : Target) : Rule := s.port.cfg.rule s.angle.ps.posture t

/-- A panel station is usable. -/
def State.panelUsable (s : State) (k : Station) : Bool :=
  match s.ctl.peers[k] with
  | some p => p.state.present && (s.ruleOf (.panel k)).used && !p.degraded
  | none => false

/-- A target is usable: SPAN when both pair stations are usable and the SPAN rule is USED. -/
def State.usable (s : State) : Target → Bool
  | .panel k => s.panelUsable k
  | .span =>
    match s.port.cfg.spanPair with
    | some (a, b) => s.panelUsable a && s.panelUsable b && (s.ruleOf .span).used
    | none => false

/-! ### Transactions -/

/-- The id and surface of a PROPOSE. -/
def Msg.propose? : Msg → Option (TxnId × Surf)
  | .proposeMove i sf _ _ => some (i, sf)
  | .proposeReturn i sf => some (i, sf)
  | .create .. | .destroy .. | .setVisible .. | .restack .. | .resize .. | .arrived .. | .cancel .. | .ready ..
  | .refuse .. | .resyncReq .. | .dump .. | .dumpEnd .. | .relay .. => none

/-- An answer to a transaction: READY or REFUSE with this id. -/
def Msg.answers (i : TxnId) : Msg → Bool
  | .ready j => j == i
  | .refuse j _ => j == i
  | .create .. | .destroy .. | .setVisible .. | .restack .. | .resize .. | .arrived .. | .proposeMove ..
  | .proposeReturn .. | .cancel .. | .resyncReq .. | .dump .. | .dumpEnd .. | .relay .. => false

/-- READY or REFUSE. -/
def Msg.isAnswer : Msg → Bool
  | .ready .. | .refuse .. => true
  | .create .. | .destroy .. | .setVisible .. | .restack .. | .resize .. | .arrived .. | .proposeMove ..
  | .proposeReturn .. | .cancel .. | .resyncReq .. | .dump .. | .dumpEnd .. | .relay .. => false

/-- The own entries of the transaction table, in table order. -/
def State.ownEntries (s : State) : List (TxnId × Surf) :=
  (s.txns.table.filter (fun e => e.id.orig == s.own)).map (fun e => (e.id, e.surf))

/-- The transactions counted in the own open count (R73): own entries in table order, then the PROPOSEs unsent: in the
frame being sent (log entry 23), and in queue order. In RESYNC none is counted: each has ended at the entry (R93), and
the entries still held are no part of the count (R67, R73). -/
def State.counted (s : State) : List (TxnId × Surf) :=
  if s.ctl.linkState = .resync then []
  else s.ownEntries ++ s.packed.filterMap Msg.propose? ++ s.pool.transaction.filterMap Msg.propose?

/-- The open entry with an id. Two open entries have one id where the originator's sequence counter has wrapped while the
first was open (R73): a message with the id is then about the one that stands first in the table: DESIGN CHOICE, log
entry 47. -/
def State.entry? (s : State) (i : TxnId) : Option Txn := s.txns.table.find? (fun e => e.id == i)

/-- The station holds a pending offer for an id (R72). -/
def State.pendingOffer (s : State) (i : TxnId) : Bool :=
  s.txns.offers.any (fun o => o.id == i && o.state == .pending) && (s.entry? i).isSome

end Sys2Proof.Machine
end

