-- ==== Sys2Proof/Machine/Ops.lean ====
section
/-! DEFINITION. The operations that several commands share: notices, drops and link errors, the pool's queues, the
stacking lists, the removal of an open transaction (R69), link states, losses (R63) and detachment (R66). -/

namespace Sys2Proof.Machine

/-- A meaning of a command: RESET_N low holds the part still (DEDUCED, log entry 7). -/
def whenRunning (s t : State) : Host.Outcome State Fault Refusal := .next (if s.resetLow then s else t)

/-! ### Notices, drops, link errors -/

/-- A notice goes in at the back of the queue, or is discarded with the overrun flag where the queue holds 16 (R186). -/
def State.notify (s : State) (n : Notice) : State :=
  if s.port.notices.length < 16 then { s with port := { s.port with notices := s.port.notices ++ [n] } }
  else { s with port := { s.port with overrun := true } }

/-- A notice for the host of one station: it goes in where the own station is that station. -/
def State.notifyAt (s : State) (k : Option Station) (n : Notice) : State := if k = some s.own then s.notify n else s

/-- A counter that saturates at 65535 (R160). -/
def bump (n : Nat) : Nat := min 65535 (n + 1)

/-- A drop counter rises, INBOUND for a relay that its destination could not deliver (Table 8-5). -/
def Pool.countDrop (p : Pool) (d : DropRecord) : Pool :=
  if d.reason = .inboundFull then { p with dropsInbound := bump p.dropsInbound }
  else
    match d.cls with
    | .transaction => { p with dropsTransaction := bump p.dropsTransaction }
    | .state => { p with dropsState := bump p.dropsState }
    | .relay => { p with dropsRelay := bump p.dropsRelay }

/-- A drop fills record A, else record B, else neither (R159). -/
def Pool.recordDrop (p : Pool) (d : DropRecord) : Pool :=
  if p.dropA.isNone then { p with dropA := some d }
  else if p.dropB.isNone then { p with dropB := some d }
  else p

/-- A drop is recorded and counted (R159, R160). -/
def State.drop (s : State) (cls : SharedClass) (reason : DropReason) (kind : Byte) (peer : Option Station) : State :=
  let d : DropRecord := ⟨cls, reason, kind, peer, s.link.cycle⟩
  { s with pool := (s.pool.recordDrop d).countDrop d }

/-- A minor error writes the MINOR record while the MAJOR record is empty (R43). -/
def State.logMinor (s : State) (kind : LinkError) (slot : Station) : State :=
  if s.link.major.isSome then s else { s with link := { s.link with minor := some ⟨kind, slot, s.link.cycle⟩ } }

/-- A major error fills the MAJOR record, or counts a later major (R44). -/
def State.logMajor (s : State) (kind : LinkError) (slot : Station) : State :=
  if s.link.major.isSome then { s with link := { s.link with laterMajors := min 255 (s.link.laterMajors + 1) } }
  else { s with link := { s.link with major := some ⟨kind, slot, s.link.cycle⟩ } }

/-- A link error goes to the link error log (Table 2-5). -/
def State.logError (s : State) (kind : LinkError) (slot : Station) : State :=
  match kind with
  | .length | .frameCheck | .late => s.logMinor kind slot
  | .clash | .syncLost => s.logMajor kind slot

/-! ### Message pool -/

/-- An enqueue in the CONTROL class always finds a buffer (R147). -/
def State.enqueueControl (s : State) (m : Msg) : State :=
  { s with pool := { s.pool with control := s.pool.control ++ [m] } }

/-- The reason for which a shared class admits no buffer (R149). -/
def State.admission (s : State) (c : SharedClass) : Option DropReason :=
  if 20 ≤ s.holdingShared then some .poolFull
  else if s.classLimit c ≤ s.holding c then some .classLimit
  else none

/-- A message goes to the back of the queue of its shared class; a relay with age 0. -/
def Pool.enqueue (p : Pool) (m : Msg) : Pool :=
  match m with
  | .relay d b => { p with relay := p.relay ++ [⟨d, b, 0⟩] }
  | .proposeMove .. | .proposeReturn .. | .cancel .. => { p with transaction := p.transaction ++ [m] }
  | .create .. | .destroy .. | .setVisible .. | .restack .. | .resize .. | .arrived .. =>
    { p with state := p.state ++ [m] }
  | .ready .. | .refuse .. | .resyncReq .. => { p with control := p.control ++ [m] }
  | .dump .. | .dumpEnd .. => p

/-- The destination of a relay, recorded in its drops. -/
def Msg.relayDest : Msg → Option Station
  | .relay d _ => some d
  | .create .. | .destroy .. | .setVisible .. | .restack .. | .resize .. | .arrived .. | .proposeMove ..
  | .proposeReturn .. | .cancel .. | .ready .. | .refuse .. | .resyncReq .. | .dump .. | .dumpEnd .. => none

/-- A command asks a shared class for a buffer for a message: the state after it, and whether it was admitted (R149). -/
def State.request (s : State) (c : SharedClass) (m : Msg) : State × Bool :=
  match s.admission c with
  | some r => (s.drop c r m.kindByte m.relayDest, false)
  | none => ({ s with pool := s.pool.enqueue m }, true)

/-- A command that enqueues one message: QUEUED, or NO_BUFFER with nothing enqueued. -/
def State.enqueueOr (s : State) (c : SharedClass) (m : Msg) : State × Result :=
  let r := s.request c m
  (r.1, if r.2 then .queued else .noBuffer)

/-! ### Stacking lists and entries (R11) -/

/-- Removal from every list. -/
def Tables.removeAll (t : Tables) (sf : Surf) : Tables :=
  { t with
    lists := #v[t.lists[0].filter (· != sf), t.lists[1].filter (· != sf), t.lists[2].filter (· != sf),
      t.lists[3].filter (· != sf)] }

/-- Insert at the front of one list. -/
def Tables.insertFront (t : Tables) (sf : Surf) (k : Station) : Tables :=
  { t with lists := t.lists.set k (sf :: t.lists[k]) }

/-- Append at the back of one list. -/
def Tables.appendBack (t : Tables) (sf : Surf) (k : Station) : Tables :=
  { t with lists := t.lists.set k (t.lists[k] ++ [sf]) }

/-- Insert at the front of each list of a list of stations. -/
def Tables.insertFronts (t : Tables) (sf : Surf) (ks : List Station) : Tables :=
  ks.foldl (fun t k => t.insertFront sf k) t

/-- Append at the back of each list of a list of stations. -/
def Tables.appendBacks (t : Tables) (sf : Surf) (ks : List Station) : Tables :=
  ks.foldl (fun t k => t.appendBack sf k) t

/-- The entry of a surface. -/
def Tables.entry (t : Tables) (sf : Surf) : Entry := t.entries[sf]

/-- Write the entry of a surface. -/
def Tables.setEntry (t : Tables) (sf : Surf) (e : Entry) : Tables := { t with entries := t.entries.set sf e }

/-- The entry of a surface in the local copy. -/
def State.surface (s : State) (sf : Surf) : Entry := s.tables.entry sf

/-- Write the entry of a surface in the local copy. -/
def State.setSurface (s : State) (sf : Surf) (e : Entry) : State := { s with tables := s.tables.setEntry sf e }

/-- The stations whose lists hold a surface, in station order. -/
def Tables.holders (t : Tables) (sf : Surf) : List Station := stations.filter (fun k => t.lists[k].contains sf)

/-! ### Angle unit -/

/-- The starting values of the posture state and the disagreement monitor; the own sample and the sample set are left
(R99, R112). -/
def AngleUnit.restart (u : AngleUnit) : AngleUnit :=
  { u with
    angle := 0, angleValid := false, ps := PostureState.start, disagreeRun := 0, agreeRun := 0, episode := false }

/-! ### Link state, peer view and pace -/

/-- The pace station is computed again; a change of it sets the sync miss count to 0 (R55). -/
def State.repace (s : State) : State :=
  let p := paceOf s.own s.ctl.linkState s.ctl.peers
  if p = s.ctl.pace then s else { s with ctl := { s.ctl with pace := p, syncMissCount := 0 } }

/-- A peer-view entry is written. -/
def State.setPeer (s : State) (k : Station) (p : Option Peer) : State :=
  State.repace { s with ctl := { s.ctl with peers := s.ctl.peers.set k p } }

/-- A change of the link state, with its LINK_STATE notice (R48). -/
def State.enterLink (s : State) (ls : LinkState) (cause : LinkCause) : State :=
  (State.repace { s with ctl := { s.ctl with linkState := ls } }).notify (.linkState ls cause)

/-- The tables of a station are cleared (R24, R68): placement table, transaction table and offer records. -/
def State.clearTables (s : State) : State :=
  { s with tables := Tables.empty, txns := { s.txns with table := [], offers := [] } }

/-- Entry to ACTIVE with empty tables and the posture state at its starting values (R50, R53, R99). -/
def State.becomeActiveEmpty (s : State) (cause : LinkCause) : State :=
  let s := s.clearTables
  { s with angle := s.angle.restart }.enterLink .active cause

/-! ### Transactions: removal (R69) -/

/-- An own transaction has ended: the own open count falls by one and its host gets TXN_DONE (R73, R94). -/
def State.endOwn (s : State) (i : TxnId) (sf : Surf) (o : TxnOutcome) : State :=
  { s with txns := { s.txns with ownOpen := s.txns.ownOpen - 1 } }.notify (.txnDone i sf o)

/-- An open entry is taken out of the table, its reservations with it, and its offer record is discarded. -/
def TxnUnit.takeOut (t : TxnUnit) (e : Txn) : TxnUnit :=
  { t with table := t.table.erase e, offers := t.offers.filter (fun o => o.id != e.id) }

/-- The queued answers of an entry are withdrawn (R69, R85). -/
def Pool.withdrawAnswers (p : Pool) (i : TxnId) : Pool :=
  { p with control := p.control.filter (fun m => !m.answers i) }

/-- The removal of an open entry for a reason: entry, reservations, lock, offer record and queued answers go, and the
originator's host gets TXN_DONE (R69). -/
def State.removeTxn (s : State) (e : Txn) (o : TxnOutcome) : State :=
  let s := { s with txns := s.txns.takeOut e }
  let s := s.setSurface e.surf { s.surface e.surf with lock := none }
  let s := { s with pool := s.pool.withdrawAnswers e.id }
  if e.id.orig = s.own then s.endOwn e.id e.surf o else s

/-- The removal, in table order, of every open entry that meets a condition. -/
def State.removeWhere (s : State) (p : Txn → Bool) (o : TxnOutcome) : State :=
  (s.txns.table.filter p).foldl (fun s e => s.removeTxn e o) s

/-! ### Losses (R62 to R64) -/

/-- The relays to a lost station are dropped DEST_LOST (R63). -/
def State.dropRelaysTo (s : State) (k : Station) : State :=
  let gone := s.pool.relay.filter (fun r => r.dest == k)
  let s := { s with pool := { s.pool with relay := s.pool.relay.filter (fun r => r.dest != k) } }
  gone.foldl (fun s r => s.drop .relay .destLost 0x40 (some r.dest)) s

/-- An entry that a loss of station `k` removes (R64). -/
def Txn.involves (e : Txn) (k : Station) : Bool := e.id.orig == k || memSet e.participants k

/-- A station is declared lost (R63, R64). -/
def State.declareLost (s : State) (k : Station) (bye : Bool) : State :=
  let s := (s.setPeer k none).notify (.peer k (if bye then .lostBye else .lostSilent))
  let s := s.dropRelaysTo k
  if s.activePanel then s.removeWhere (fun e => e.involves k) (.peerLost k) else s

/-! ### Detachment (R66, R67) -/

/-- The station controller after a detachment, before the new link state. -/
def StationUnit.detached (c : StationUnit) (toListen : Bool) : StationUnit :=
  { c with
    peers := #v[none, none, none, none], pace := none, coldstartCount := 0, integrationCount := 0, clashCount := 0
    syncMissCount := 0, mismatchReported := false, joinPending := false, leavePending := false
    listenCount := if toListen then 4 + c.straps.station.val else c.listenCount }

/-- Every queue of the pool is emptied without a drop record (R66, Table 8-2). -/
def Pool.emptied (p : Pool) : Pool := { p with control := [], transaction := [], state := [], relay := [] }

/-- The divergence monitor after a detachment: Table 7-1, but for the own digest (R132). -/
def DivUnit.detached (d : DivUnit) : DivUnit := { DivUnit.reset with ownDigest := d.ownDigest }

/-- Everything a detachment clears (R66); a detachment to HALTED unlocks the configuration (R67). -/
def State.clearForDetach (s : State) (toListen : Bool) : State :=
  { s with
    link := { s.link with silence := #v[0, 0, 0, 0], sending := none }
    ctl := s.ctl.detached toListen
    angle := { s.angle.restart with samples := #v[none, none, none, none] }
    tables := Tables.empty
    txns := { s.txns with table := [], offers := [], ownOpen := 0 }
    div := s.div.detached
    pool := s.pool.emptied
    port := { s.port with locked := s.port.locked && toListen } }

/-- Detachment to LISTEN, or to HALTED where that is asked for or a LEAVE is pending (R66, R67). A station in HALTED
has nothing to detach. -/
def State.detach (s : State) (cause : LinkCause) (toHalted : Bool) : State :=
  if s.ctl.linkState = .halted then s
  else
    let toListen := !(toHalted || s.ctl.leavePending)
    let s := s.counted.foldl (fun s c => s.notify (.txnDone c.1 c.2 .left)) s
    (s.clearForDetach toListen).enterLink (if toListen then .listen else .halted) cause

/-! ### Requests for a copy (R142) -/

/-- The reason of a requester's RESYNC_REQ: DIVERGED in RESYNC, JOIN in INTEGRATING. -/
def State.requestReason (s : State) : ReqReason := if s.ctl.linkState = .resync then .diverged else .join

/-- A failed attempt: the requester asks again, or gives up at the third (R142). -/
def State.failAttempt (s : State) : State :=
  let n := s.div.attempts + 1
  let s := { s with div := { s.div with attempts := n } }
  if 3 ≤ n then s.detach .giveUp true
  else
    { s with div := { s.div with dumpState := .asked } }.enqueueControl (.resyncReq s.requestReason)

/-- A freeze ends (R138): count, flag and giver are cleared, and a pending request is marked for the next cycle. -/
def State.endFreeze (s : State) : State :=
  { s with
    div :=
      { s.div with
        freezeCount := 0, freezeFlag := false, freezeGiver := none, pendingRequest := false
        nextMark := s.div.nextMark || s.div.pendingRequest } }

/-! ### Posture changes (R109) -/

/-- The posture changes, with its POSTURE notice where it differs from the one held. -/
def State.setPosture (s : State) (p : Posture) (cause : PostureCause) : State :=
  let old := s.angle.ps.posture
  let s := { s with angle := { s.angle with ps := { s.angle.ps with posture := p } } }
  if p = old then s else s.notify (.posture p old s.angle.angle s.angle.angleValid cause)

end Sys2Proof.Machine
end

