-- ==== Sys2Proof/Machine/Records.lean ====
section
/-! DEFINITION. The serialisations and records of 11_formats.md: table digest (R129, R191), notice records (Table 11-5),
status record (Table 11-7), entry, drop log and link log records, result codes, scanout transfers (Table 11-8). -/

namespace Sys2Proof.Machine

/-! ### Table digest (R129, R191) -/

/-- The 20 bytes of a surface entry. -/
def entryBytes (sf : Surf) (e : Entry) : List Byte := surfByte sf :: (entryFieldBytes e ++ optTxnIdBytes e.lock)

/-- A stacking list: its occupancy, then its ids front to back. -/
def listBytes (l : List Surf) : List Byte := natByte l.length :: l.map surfByte

def txnKindByte : TxnKind → Byte
  | .move => 0
  | .ret => 1

/-- The 17 bytes of an open transaction entry. -/
def txnBytes (e : Txn) : List Byte :=
  txnIdBytes e.id ++ [txnKindByte e.kind, surfByte e.surf, optTargetByte e.origin] ++ placementBytes e.dest
    ++ [flagByte e.retFlag, setByte e.participants, setByte e.answered, natByte e.cyclesLeft, natByte e.reserved.length,
        optStationByte e.reserved[0]?, optStationByte e.reserved[1]?]

/-- The serialisation of the posture state and the tables. -/
def tableBytes (p : PostureState) (t : Tables) (table : List Txn) : List Byte :=
  postureStateBytes p
    ++ (surfs.map (fun sf => entryBytes sf (t.entry sf))).flatten
    ++ (t.lists.toList.map listBytes).flatten
    ++ natByte table.length :: (table.map txnBytes).flatten

/-- The table digest (R128). -/
def tableDigestOf (p : PostureState) (t : Tables) (table : List Txn) : Word := crc32 (tableBytes p t table)

/-- The digest of the present posture state and tables. -/
def State.digestNow (s : State) : Word := tableDigestOf s.angle.ps s.tables s.txns.table

/-! ### Results (11_formats.md, section 11.4) -/

/-- The result code of a reply. -/
def Result.code : Result → Byte
  | .done => 0x00
  | .queued => 0x01
  | .queuedTxn _ => 0x01
  | .notHalted => 0x10
  | .notActive => 0x11
  | .notPanel => 0x12
  | .badArg => 0x13
  | .badConfig _ => 0x14
  | .noSurface => 0x15
  | .locked => 0x16
  | .notOwner => 0x17
  | .noBuffer => 0x18
  | .limit => 0x19
  | .tooLate => 0x1A
  | .busy => 0x1B
  | .notIdle => 0x1C
  | .noReturn => 0x1D
  | .destAbsent => 0x1E
  | .strict _ => 0x1F

/-- The reply of a COMMAND: the result code, then what the result returns (R177). -/
def Result.bytes : Result → List Byte
  | .queuedTxn i => 0x01 :: txnIdBytes i
  | .badConfig n => [0x14, natByte n]
  | .strict c => [0x1F, softByte c]
  | .done => [0x00]
  | .queued => [0x01]
  | .notHalted => [0x10]
  | .notActive => [0x11]
  | .notPanel => [0x12]
  | .badArg => [0x13]
  | .noSurface => [0x15]
  | .locked => [0x16]
  | .notOwner => [0x17]
  | .noBuffer => [0x18]
  | .limit => [0x19]
  | .tooLate => [0x1A]
  | .busy => [0x1B]
  | .notIdle => [0x1C]
  | .noReturn => [0x1D]
  | .destAbsent => [0x1E]

/-! ### Notice records (Table 11-5) -/

def outcomeStation : TxnOutcome → Option Station
  | .refused s _ => some s
  | .peerLost s => some s
  | .committed | .void _ | .cancelled | .timeout | .rehomed | .resync | .left => none

def outcomeReason : TxnOutcome → Option Reason
  | .refused _ r => r
  | .void r => some r
  | .committed | .cancelled | .timeout | .peerLost _ | .rehomed | .resync | .left => none

def causeTxn : SurfaceCause → Option TxnId
  | .committed i => some i
  | .evacuated | .restored | .arrivalTimeout => none

def peerEventBytes : PeerEvent → List Byte
  | .joined r => [1, roleByte r, 0]
  | .lostSilent => [2, 0xFF, 1]
  | .lostBye => [2, 0xFF, 2]

def surfaceBody (sf : Surf) (tag : Half) (p : Placement) (k : Station) (c : SurfaceCause) : List Byte :=
  [surfByte sf] ++ halfBytes tag ++ placementBytes p ++ [stationByte k, causeByte c] ++ optTxnIdBytes (causeTxn c)

/-- The kind code of a notice. -/
def Notice.kindByte : Notice → Byte
  | .created .. => 0x01
  | .stateVoid .. => 0x02
  | .txnDone .. => 0x03
  | .handoverOffer .. => 0x04
  | .surfaceGained .. => 0x05
  | .surfaceLost .. => 0x06
  | .surfaceArriving .. => 0x07
  | .surfaceParked .. => 0x08
  | .posture .. => 0x09
  | .angleDisagree .. => 0x0A
  | .linkState .. => 0x0B
  | .peer .. => 0x0C
  | .relayIn .. => 0x0D
  | .panel .. => 0x0E
  | .latchMissed .. => 0x0F
  | .configMismatch .. => 0x10

/-- The body of a notice record. -/
def Notice.body : Notice → List Byte
  | .created tag sf => [tag, surfByte sf]
  | .stateVoid k sf tag r => [k, optSurfByte sf, tag, reasonByte r]
  | .txnDone i sf o =>
    txnIdBytes i ++ [surfByte sf, outcomeByte o, optStationByte (outcomeStation o), optReasonByte (outcomeReason o)]
  | .handoverOffer i sf tag ow o p =>
    txnIdBytes i ++ [surfByte sf] ++ halfBytes tag ++ [optStationByte ow, optTargetByte o] ++ placementBytes p
  | .surfaceGained sf tag p k c => surfaceBody sf tag p k c
  | .surfaceLost sf tag p k c => surfaceBody sf tag p k c
  | .surfaceArriving sf tag p n => [surfByte sf] ++ halfBytes tag ++ placementBytes p ++ [natByte n]
  | .surfaceParked sf tag r p c =>
    [surfByte sf] ++ halfBytes tag ++ optRegionBytes r ++ optPlacementBytes p ++ [causeByte c]
  | .posture n o a v c => [postureByte n, postureByte o] ++ natHalf a ++ [flagByte v, postureCauseByte c]
  | .angleDisagree st k p m => [if st then 1 else 2, stationByte k] ++ natHalf p ++ natHalf m
  | .linkState ls c => [linkStateByte ls, linkCauseByte c]
  | .peer k e => stationByte k :: peerEventBytes e
  | .relayIn k p => [stationByte k, natByte p.length] ++ p
  | .panel e ps => [panelEventByte e, panelStateByte ps]
  | .latchMissed k c n d => [transferKindByte k] ++ halfBytes c ++ [natByte n, flagByte d]
  | .configMismatch k o t => [stationByte k] ++ wordBytes (o.getD 0) ++ wordBytes (t.getD 0)

/-- A notice record: kind, length, body. -/
def Notice.record (n : Notice) : List Byte := [n.kindByte, natByte n.body.length] ++ n.body

/-- The record of kind NONE. -/
def noneRecord : List Byte := [0x00, 0x00]

/-! ### Entry, drop log and link log records (section 11.5) -/

/-- The entry record of READ_ENTRY: the 20-byte entry, then the four z positions (R25). -/
def State.entryRecord (s : State) (sf : Surf) : List Byte :=
  entryBytes sf (s.surface sf) ++ stations.map (fun k => natByte (zPosition s.tables.lists[k] sf))

/-- A drop record: filled flag, pool class, reason, message kind, peer station, cycle count. -/
def dropRecordBytes : Option DropRecord → List Byte
  | some d => [1, classByte d.cls, dropReasonByte d.reason, d.msgKind, optStationByte d.peer] ++ halfBytes d.cycle
  | none => [0, 0, 0, 0, 0, 0, 0]

/-- The drop log: records A and B, then the four counters. -/
def Pool.dropLogBytes (p : Pool) : List Byte :=
  dropRecordBytes p.dropA ++ dropRecordBytes p.dropB ++ natHalf p.dropsTransaction ++ natHalf p.dropsState
    ++ natHalf p.dropsRelay ++ natHalf p.dropsInbound

/-- A link error log record: filled flag, kind, slot, cycle count. -/
def logRecordBytes : Option LogRecord → List Byte
  | some r => [1, linkErrorByte r.kind, stationByte r.slot] ++ halfBytes r.cycle
  | none => [0, 0, 0, 0, 0]

/-- The link error log: MINOR, MAJOR, later-major count. -/
def LinkUnit.logBytes (l : LinkUnit) : List Byte :=
  logRecordBytes l.minor ++ logRecordBytes l.major ++ [natByte l.laterMajors]

/-! ### The status record (Table 11-7) -/

/-- A field that a SENSOR station does not hold reads 0xFF. -/
def State.panelOnly (s : State) (bs : List Byte) : List Byte := if s.isPanel then bs else bs.map (fun _ => 0xFF)

/-- A digest in the status record; under its mark its bytes are free values. -/
def State.digestBytes (s : State) (offset : Nat) : Option Word → List Byte
  | some w => wordBytes w
  | none => [0, 1, 2, 3].map (fun i => Config.statusByte s.freeCount (offset + i))

/-- State, role and silence count of one station. -/
def State.peerStatus (s : State) (k : Station) : List Byte :=
  match s.ctl.peers[k] with
  | some p => [linkStateByte p.state, roleByte p.role, natByte s.link.silence[k]]
  | none => [6, Config.statusByte s.freeCount (14 + 3 * k.val), natByte s.link.silence[k]]

/-- Bits as the strict mask: bit 0 CLIPPED, 1 NO_CHANGE, 2 RETURN_REPLACED. -/
def maskByte (a b c : Bool) : Byte := flagByte a ||| (flagByte b <<< 1) ||| (flagByte c <<< 2)

/-- The capture record in the status record. -/
def State.captureBytes (s : State) : List Byte :=
  match s.port.capture with
  | some c => [c.command, optSurfByte c.sf, softByte c.condition]
  | none => [0, Config.statusByte s.freeCount 36, Config.statusByte s.freeCount 37]

/-- The last-access record in the status record. -/
def State.lastAccessBytes (s : State) : List Byte :=
  match s.port.lastAccess with
  | some a =>
    [a.kind.getD (Config.statusByte s.freeCount 38), a.command.getD (Config.statusByte s.freeCount 39),
     a.result.getD 0xFF, completionByte a.completion]
  | none => [0, Config.statusByte s.freeCount 39, 0xFF, Config.statusByte s.freeCount 41]

/-- The status record, 79 bytes. -/
def State.statusRecord (s : State) : List Byte :=
  let c := s.ctl
  let p := s.port
  let a := s.angle
  let d := s.div
  [stationByte c.straps.station, roleByte c.straps.role, angleKindByte c.straps.angle, rateByte c.straps.rate,
   flagByte c.straps.auto]
    ++ [linkStateByte c.linkState, optStationByte c.pace] ++ halfBytes s.link.cycle
    ++ [flagByte c.leavePending, flagByte c.joinPending, natByte c.clashCount, natByte c.syncMissCount]
    ++ (stations.map s.peerStatus).flatten
    ++ [flagByte p.locked, flagByte p.configDigest.isNone] ++ s.digestBytes 27 p.configDigest
    ++ [maskByte p.cfg.strictClipped p.cfg.strictNoChange p.cfg.strictReturnReplaced, natByte p.notices.length,
        flagByte p.overrun]
    ++ [maskByte p.adjClipped p.adjNoChange p.adjReturnReplaced]
    ++ s.captureBytes ++ s.lastAccessBytes
    ++ s.panelOnly [natByte s.txns.ownOpen, s.txns.seq]
    ++ [postureByte a.ps.posture, candidateByte a.ps.candidate, natByte a.ps.dwell] ++ natHalf a.angle
    ++ [flagByte a.angleValid, natByte a.ps.stale, flagByte a.ps.distrust, flagByte a.episode]
    ++ flagByte d.ownDigest.isSome :: s.digestBytes 54 d.ownDigest
    ++ s.panelOnly (flagByte d.reference.isSome :: s.digestBytes 59 d.reference)
    ++ s.panelOnly [flagByte d.freezeFlag, natByte d.freezeCount, optStationByte d.freezeGiver,
        dumpStateByte d.dumpState, natByte d.attempts]
    ++ [natByte s.holdingControl, natByte (s.holding .transaction), natByte (s.holding .state),
        natByte (s.holding .relay), flagByte s.pool.relayHold]
    ++ s.panelOnly [panelStateByte s.panel.state, natByte s.panel.blankWait, flagByte s.panel.darkMark,
        natByte s.panel.wakeCount, natByte s.panel.missCount, flagByte s.panel.degraded]

/-! ### Scanout transfers (Table 11-8) -/

def scanEntryBytes (e : ScanEntry) : List Byte :=
  [surfByte e.surf] ++ halfBytes e.appTag ++ regionBytes e.region ++ [natByte e.offset, flagByte e.placeholder]

/-- A transfer as bytes: header record, then entry records. -/
def transferBytes (kind : TransferKind) (k : Station) (cycle : Half) (es : List ScanEntry) : List Byte :=
  [transferKindByte kind, stationByte k] ++ halfBytes cycle ++ [natByte es.length] ++ (es.map scanEntryBytes).flatten

end Sys2Proof.Machine
end

