-- ==== Sys2Proof/Machine/Port.lean ====
section
/-! DEFINITION. The local port (10_local_port.md): reset and straps, accesses and their end, configuration, START and LEAVE,
the clears and the reads. -/

namespace Sys2Proof.Machine

/-! ### Accesses (R176, R177, R178) -/

/-- An access event is taken: its reply is fixed, and goes out until CS_N rises. -/
def State.setAccess (s : State) (kind : Byte) (command : Option Byte) (reply : List Byte) : State :=
  { s with port := { s.port with access := some ⟨kind, command, reply⟩ } }

/-- The byte that the port clocks out on MISO at an index after the access event: the reply, and zero bytes beyond its end
(R176). That it is zero before the access event, and with no access under way, is a DESIGN CHOICE, log entry 45. -/
def State.misoByte (s : State) (n : Nat) : Byte :=
  match s.port.access with
  | some a => a.reply.getD n 0
  | none => 0

/-- A COMMAND access: its form is checked first, then it is carried out by its owning rule (R177). -/
def runCommand (code : Byte) (formOk : Bool) (f : State → State × Result) (s : State) : State :=
  let r := if formOk then f s else (s, .badArg)
  r.1.setAccess 0x01 (some code) r.2.bytes

/-- UNASSIGNED_COMMAND_KIND: refused BAD_ARG (R177). -/
def execUnassignedCommandKind (kind : Byte) (_args : List Byte) (s : State) : Host.Outcome State Fault Refusal :=
  whenRunning s (runCommand kind false (fun s => (s, .badArg)) s)

/-- UNASSIGNED_ACCESS_KIND: answered BAD_ARG (R176). -/
def execUnassignedAccessKind (kind : Byte) (s : State) : Host.Outcome State Fault Refusal :=
  whenRunning s (s.setAccess kind none Result.badArg.bytes)

/-- The last-access record at the rise of CS_N (R178). An access that ends before its first byte has no access kind:
DESIGN CHOICE, log entry 40. -/
def lastAccessOf (a : Option Access) (request : List Byte) (clocked : Nat) : LastAccess :=
  match a with
  | some a =>
    { kind := some a.kind, command := a.command, result := a.reply.head?
      completion := if a.reply.length ≤ clocked then .complete else .replyCut }
  | none =>
    { kind := request.head?, command := if request.head? = some 0x01 then request[1]? else none, result := none
      completion := .requestCut }

/-- ACCESS_END: CS_N rises and the last-access record is written (R178). -/
def execAccessEnd (request : List Byte) (clocked : Nat) (s : State) : Host.Outcome State Fault Refusal :=
  whenRunning s
    { s with port := { s.port with lastAccess := some (lastAccessOf s.port.access request clocked), access := none } }

/-! ### START, LEAVE and SET_CONFIG -/

/-- Check 1: b1 < b2 < b3. -/
def bandOrderOk (c : ConfigItems) : Bool := c.b1 < c.b2 && c.b2 < c.b3

/-- Check 2: the own station is in the panel station set exactly where its role is PANEL. -/
def membershipOk (p : Straps) (c : ConfigItems) : Bool := memSet c.panelSet p.station == (p.role == .panel)

/-- Check 3: a render group 1..4 inside the panel station set, 0 outside. -/
def groupsOk (c : ConfigItems) : Bool :=
  stations.all (fun k =>
    if memSet c.panelSet k then 1 ≤ c.groups[k] && c.groups[k] ≤ 4 else c.groups[k] == 0)

/-- Check 4: the span pair is none, or both of its stations are in the panel station set. -/
def spanPairOk (c : ConfigItems) : Bool :=
  match c.spanPair with
  | some (a, b) => memSet c.panelSet a && memSet c.panelSet b
  | none => true

/-- Check 5: every fallback target is configured. -/
def fallbacksOk (c : ConfigItems) : Bool := c.rules.toList.all (fun r => r.fallbacks.all (targetConfigured c))

/-- Check 6: the offer limit is at most the answer window less 2. -/
def offerLimitOk (c : ConfigItems) : Bool := c.offerLimit + 2 ≤ c.answerWindow

/-- Check 7: limit low is at most limit high. -/
def poolLimitsOk (c : ConfigItems) : Bool := c.limitLow ≤ c.limitHigh

/-- The number of the first START check that fails (R181). -/
def startCheck (p : Straps) (c : ConfigItems) : Option Nat :=
  if !bandOrderOk c then some 1
  else if !membershipOk p c then some 2
  else if !groupsOk c then some 3
  else if !spanPairOk c then some 4
  else if !fallbacksOk c then some 5
  else if !offerLimitOk c then some 6
  else if !poolLimitsOk c then some 7
  else none

/-- The block is locked, the config digest is computed, and the station goes to LISTEN (R47, R181, R182). -/
def State.beginListen (s : State) : State :=
  { s with
    port := { s.port with locked := true, configDigest := some (configDigestOf s.port.cfg) }
    ctl := { s.ctl with listenCount := 4 + s.own.val } }.enterLink .listen .start

/-- START (R47, R181). -/
def State.start (s : State) : State × Result :=
  if s.ctl.linkState ≠ .halted then (s, .notHalted)
  else
    match startCheck s.ctl.straps s.port.cfg with
    | some n => (s, .badConfig n)
    | none => (s.beginListen, .done)

/-- START: the command has no arguments. -/
def execStart (args : List Byte) (s : State) : Host.Outcome State Fault Refusal :=
  whenRunning s (runCommand 0x02 args.isEmpty State.start s)

/-- LEAVE by link state (R65). -/
def State.leave (s : State) : State × Result :=
  match s.ctl.linkState with
  | .halted => (s, .done)
  | .listen => (s.detach .leave true, .done)
  | .coldstart | .integrating | .active | .resync => ({ s with ctl := { s.ctl with leavePending := true } }, .queued)

/-- LEAVE: the command has no arguments. -/
def execLeave (args : List Byte) (s : State) : Host.Outcome State Fault Refusal :=
  whenRunning s (runCommand 0x03 args.isEmpty State.leave s)

/-- SET_CONFIG sets one item in HALTED (R180). -/
def State.setConfig (item v0 v1 v2 v3 : Byte) (s : State) : State × Result :=
  if s.ctl.linkState ≠ .halted then (s, .notHalted)
  else
    match setItem s.port.cfg item v0 v1 v2 v3 with
    | some c => ({ s with port := { s.port with cfg := c } }, .done)
    | none => (s, .badArg)

/-- SET_CONFIG by its argument bytes: item, then four value bytes. -/
def setConfigArgs (args : List Byte) (s : State) : State × Result :=
  match args with
  | [item, v0, v1, v2, v3] => s.setConfig item v0 v1 v2 v3
  | _ => (s, .badArg)

/-- SET_CONFIG: five argument bytes. -/
def execSetConfig (args : List Byte) (s : State) : Host.Outcome State Fault Refusal :=
  whenRunning s (runCommand 0x01 (args.length == 5) (setConfigArgs args) s)

/-! ### Reset (R34, R46) -/

/-- A SENSOR station strapped AUTO takes START at the release of hard reset, answered to no one (R46, R179). -/
def State.autoStart (s : State) : State :=
  if s.ctl.straps.auto && s.ctl.straps.role == .sensor then s.start.1 else s

/-- HARD_RESET: every block in its reset state, the straps latched, AUTO taken (R46). -/
def execHardReset (pins : StrapPins) (s : State) : Host.Outcome State Fault Refusal :=
  .next { (State.ofStraps (Straps.latch pins)).autoStart with pending := s.pending, freeCount := s.freeCount }

/-- RESET_ASSERTED: an own transmission stops at once and LINK_P and LINK_N are released (R34); INT_N is high while
RESET_N is low (R187). -/
def execResetAsserted (s : State) : Host.Outcome State Fault Refusal :=
  .next { s with resetLow := true, link := { s.link with sending := none } }

/-! ### Clears -/

/-- The adjust flags are cleared and the capture record is emptied (R185). -/
def State.clearAdjust (s : State) : State × Result :=
  ({ s with
      port :=
        { s.port with adjClipped := false, adjNoChange := false, adjReturnReplaced := false, capture := none } },
    .done)

/-- CLEAR_ADJUST: the command has no arguments. -/
def execClearAdjust (args : List Byte) (s : State) : Host.Outcome State Fault Refusal :=
  whenRunning s (runCommand 0x33 args.isEmpty State.clearAdjust s)

/-- Both link error log records are emptied (R45). -/
def State.clearLinkLog (s : State) : State × Result :=
  ({ s with link := { s.link with minor := none, major := none, laterMajors := 0 } }, .done)

/-- CLEAR_LINK_LOG: the command has no arguments. -/
def execClearLinkLog (args : List Byte) (s : State) : Host.Outcome State Fault Refusal :=
  whenRunning s (runCommand 0x34 args.isEmpty State.clearLinkLog s)

/-! ### Reads -/

/-- The oldest notice is popped; its record, or NONE (R186). -/
def State.popNotice (s : State) : State × List Byte :=
  match s.port.notices with
  | n :: rest => ({ s with port := { s.port with notices := rest } }, n.record)
  | [] => (s, noneRecord)

/-- READ_NOTICE (R186). -/
def execReadNotice (s : State) : Host.Outcome State Fault Refusal :=
  let r := s.popNotice
  whenRunning s (r.1.setAccess 0x02 none (0x00 :: r.2))

/-- READ_STATUS returns the status record and clears the overrun flag (R188). -/
def execReadStatus (s : State) : Host.Outcome State Fault Refusal :=
  whenRunning s
    ({ s with port := { s.port with overrun := false }, freeCount := s.freeCount + 1 }.setAccess 0x03 none
      (0x00 :: s.statusRecord))

/-- The reply of READ_ENTRY (R25). -/
def State.entryReply (s : State) (b : Byte) : List Byte :=
  if !s.isPanel then Result.notPanel.bytes
  else
    match toSurf b with
    | none => Result.badArg.bytes
    | some sf => 0x00 :: s.entryRecord sf

/-- READ_ENTRY (R25). -/
def execReadEntry (surface : Byte) (s : State) : Host.Outcome State Fault Refusal :=
  whenRunning s (s.setAccess 0x04 none (s.entryReply surface))

/-- The drop log emptied (R161). -/
def Pool.clearDrops (p : Pool) : Pool :=
  { p with
    dropA := none, dropB := none, dropsTransaction := 0, dropsState := 0, dropsRelay := 0, dropsInbound := 0 }

/-- READ_DROP_LOG returns the drop log and counters, then empties them (R161). -/
def execReadDropLog (s : State) : Host.Outcome State Fault Refusal :=
  whenRunning s
    ({ s with pool := s.pool.clearDrops }.setAccess 0x05 none (0x00 :: s.pool.dropLogBytes))

/-- READ_LINK_LOG returns both link error log records (R45). -/
def execReadLinkLog (s : State) : Host.Outcome State Fault Refusal :=
  whenRunning s (s.setAccess 0x06 none (0x00 :: s.link.logBytes))

end Sys2Proof.Machine
end

