-- ==== Sys2Proof/Machine/Surface.lean ====
section
/-! DEFINITION. The surface commands (R21, R22) with their soft conditions (R183), and the STATE messages as applied on
hearing (R12 to R20). -/

namespace Sys2Proof.Machine

/-! ### Soft conditions (R183) -/

/-- The strict bit of a condition. -/
def State.isStrict (s : State) : SoftCondition → Bool
  | .clipped => s.port.cfg.strictClipped
  | .noChange => s.port.cfg.strictNoChange
  | .returnReplaced => s.port.cfg.strictReturnReplaced

/-- A lenient condition sets its adjust flag, and an empty capture record captures it. -/
def State.adjust (s : State) (c : SoftCondition) (code : Byte) (sf : Option Surf) : State :=
  { s with
    port :=
      { s.port with
        adjClipped := s.port.adjClipped || c == .clipped
        adjNoChange := s.port.adjNoChange || c == .noChange
        adjReturnReplaced := s.port.adjReturnReplaced || c == .returnReplaced
        capture := if s.port.capture.isNone then some ⟨code, sf, c⟩ else s.port.capture } }

/-- A command that finds a soft condition is refused STRICT, or is adjusted and goes on; one that finds none goes on. -/
def State.soft (s : State) (holds : Bool) (c : SoftCondition) (code : Byte) (sf : Option Surf)
    (goOn : State → State × Result) : State × Result :=
  if !holds then goOn s
  else if s.isStrict c then (s, .strict c)
  else goOn (s.adjust c code sf)

/-! ### Surface commands (R21, R22) -/

/-- Checks 1 and 2 of R21 (and of R75, R83, R90): the station is ACTIVE and PANEL. -/
def State.atActivePanel (s : State) (goOn : State × Result) : State × Result :=
  if s.ctl.linkState ≠ .active then (s, .notActive)
  else if !s.isPanel then (s, .notPanel)
  else goOn

/-- Checks 1 to 4 of R21 for a command that names a surface. -/
def State.onOwned (s : State) (b : Byte) (goOn : Surf → State × Result) : State × Result :=
  s.atActivePanel
    (match toSurf b with
      | none => (s, .noSurface)
      | some sf =>
        if (s.surface sf).state = .free then (s, .noSurface)
        else if (s.surface sf).owner ≠ some s.own then (s, .notOwner)
        else goOn sf)

/-- A command that would change nothing finds NO_CHANGE; otherwise its message is enqueued (R22). -/
def State.change (s : State) (code : Byte) (sf : Surf) (noChange : Bool) (m : Msg) : State × Result :=
  if noChange then s.soft true .noChange code (some sf) (fun s => (s, .done)) else s.enqueueOr .state m

/-- A command with a clipped region: BAD_ARG where there is none (check 6), then CLIPPED, then the message (R22). -/
def State.sized (s : State) (code : Byte) (sf : Option Surf) (r : Option (Region × Bool)) (m : Region → Msg) :
    State × Result :=
  match r with
  | none => (s, .badArg)
  | some (r, changed) => s.soft changed .clipped code sf (fun s => s.enqueueOr .state (m r))

/-- A surface stands at position 1 of each list that holds it. -/
def Tables.frontmost (t : Tables) (sf : Surf) : Bool :=
  stations.all (fun k => !t.lists[k].contains sf || t.lists[k].head? == some sf)

/-- A surface stands last in each list that holds it. -/
def Tables.hindmost (t : Tables) (sf : Surf) : Bool :=
  stations.all (fun k => !t.lists[k].contains sf || t.lists[k].getLast? == some sf)

/-- The arguments of CREATE: create tag, app tag, x, y, w, h, visible. -/
def createArgs (args : List Byte) (s : State) : State × Result :=
  match args with
  | [tag, a1, a0, x, y, w, h, v] =>
    s.atActivePanel
      (s.sized 0x10 none ((absRect x y w h).bind (clipArg 24)) (fun r => .create tag (toHalf a1 a0) r (toFlag v)))
  | _ => (s, .badArg)

/-- CREATE: eight argument bytes. -/
def execCreate (args : List Byte) (s : State) : Host.Outcome State Fault Refusal :=
  whenRunning s (runCommand 0x10 (args.length == 8) (createArgs args) s)

/-- The argument of a command with one surface. -/
def surfaceArg (args : List Byte) (f : Byte → State → State × Result) (s : State) : State × Result :=
  match args with
  | [b] => f b s
  | _ => (s, .badArg)

/-- DESTROY of an own surface: LOCKED, or a DESTROY message (check 5 of R21). -/
def State.destroySurface (b : Byte) (s : State) : State × Result :=
  s.onOwned b (fun sf =>
    if (s.surface sf).lock.isSome then (s, .locked) else s.enqueueOr .state (.destroy sf))

/-- DESTROY: one argument byte. -/
def execDestroy (args : List Byte) (s : State) : Host.Outcome State Fault Refusal :=
  whenRunning s (runCommand 0x11 (args.length == 1) (surfaceArg args State.destroySurface) s)

/-- SHOW of an own surface. -/
def State.showSurface (b : Byte) (s : State) : State × Result :=
  s.onOwned b (fun sf => s.change 0x12 sf (s.surface sf).visible (.setVisible sf true))

/-- SHOW: one argument byte. -/
def execShow (args : List Byte) (s : State) : Host.Outcome State Fault Refusal :=
  whenRunning s (runCommand 0x12 (args.length == 1) (surfaceArg args State.showSurface) s)

/-- HIDE of an own surface. -/
def State.hideSurface (b : Byte) (s : State) : State × Result :=
  s.onOwned b (fun sf => s.change 0x13 sf (!(s.surface sf).visible) (.setVisible sf false))

/-- HIDE: one argument byte. -/
def execHide (args : List Byte) (s : State) : Host.Outcome State Fault Refusal :=
  whenRunning s (runCommand 0x13 (args.length == 1) (surfaceArg args State.hideSurface) s)

/-- RAISE of an own surface. -/
def State.raiseSurface (b : Byte) (s : State) : State × Result :=
  s.onOwned b (fun sf => s.change 0x14 sf (s.tables.frontmost sf) (.restack sf .front))

/-- RAISE: one argument byte. -/
def execRaise (args : List Byte) (s : State) : Host.Outcome State Fault Refusal :=
  whenRunning s (runCommand 0x14 (args.length == 1) (surfaceArg args State.raiseSurface) s)

/-- LOWER of an own surface. -/
def State.lowerSurface (b : Byte) (s : State) : State × Result :=
  s.onOwned b (fun sf => s.change 0x15 sf (s.tables.hindmost sf) (.restack sf .back))

/-- LOWER: one argument byte. -/
def execLower (args : List Byte) (s : State) : Host.Outcome State Fault Refusal :=
  whenRunning s (runCommand 0x15 (args.length == 1) (surfaceArg args State.lowerSurface) s)

/-- The region of a RESIZE: ABS, or REL from the present region, clipped to the reference grid (R21). -/
def resizeRegion (e : Entry) (mode a b c d : Byte) : Option (Region × Bool) :=
  e.region.bind (fun present => (modeRect mode present none a b c d).bind (clipArg (refCols e)))

/-- The arguments of RESIZE: surface, region mode, four bytes. -/
def resizeArgs (args : List Byte) (s : State) : State × Result :=
  match args with
  | [b, mode, x, y, w, h] =>
    s.onOwned b (fun sf =>
      s.sized 0x16 (some sf) (resizeRegion (s.surface sf) mode x y w h) (fun r => .resize sf r))
  | _ => (s, .badArg)

/-- RESIZE: six argument bytes. -/
def execResize (args : List Byte) (s : State) : Host.Outcome State Fault Refusal :=
  whenRunning s (runCommand 0x16 (args.length == 6) (resizeArgs args) s)

/-- CONFIRM of an own surface: DONE where it is not arriving, else an ARRIVED message (R21). -/
def State.confirmSurface (b : Byte) (s : State) : State × Result :=
  s.onOwned b (fun sf =>
    if (s.surface sf).arriving.isNone then (s, .done) else s.enqueueOr .state (.arrived sf))

/-- CONFIRM: one argument byte. -/
def execConfirm (args : List Byte) (s : State) : Host.Outcome State Fault Refusal :=
  whenRunning s (runCommand 0x17 (args.length == 1) (surfaceArg args State.confirmSurface) s)

/-! ### STATE messages on hearing (R12 to R20) -/

/-- A void STATE message: STATE_VOID at its sender, nothing at the others (R13). -/
def State.voidState (s : State) (sender : Station) (kind : Byte) (sf : Option Surf) (tag : Byte) (r : Reason) : State :=
  s.notifyAt (some sender) (.stateVoid kind sf tag r)

/-- The lowest-numbered FREE id (R15). -/
def Tables.lowestFree (t : Tables) : Option Surf := surfs.find? (fun sf => (t.entry sf).state == .free)

/-- The entry of a created surface (R15). -/
def createdEntry (k : Station) (appTag : Half) (r : Region) (v : Bool) : Entry where
  state := .placed
  appTag := appTag
  owner := some k
  target := some (.panel k)
  region := some r
  visible := v
  arriving := none
  implicit := false
  ret := none
  lock := none

/-- CREATE heard (R15). -/
def State.hearCreate (s : State) (sender : Station) (tag : Byte) (appTag : Half) (r : Region) (v : Bool) : State :=
  if s.div.freezeFlag then s.voidState sender 0x01 none tag .frozen
  else
    match s.tables.lowestFree with
    | none => s.voidState sender 0x01 none tag .tableFull
    | some sf =>
      if !s.hasFree sender then s.voidState sender 0x01 none tag .noRoom
      else
        { s with
          tables := (s.tables.setEntry sf (createdEntry sender appTag r v)).insertFront sf sender }.notifyAt
          (some sender) (.created tag sf)

/-- The checks of R12 and R14 for a STATE message that names a surface. -/
def State.onHeard (s : State) (sender : Station) (kind : Byte) (sf : Surf) (goOn : State) : State :=
  if s.div.freezeFlag then s.voidState sender kind (some sf) 0 .frozen
  else if (s.surface sf).state = .free then s.voidState sender kind (some sf) 0 .noSurface
  else if (s.surface sf).owner ≠ some sender then s.voidState sender kind (some sf) 0 .notOwner
  else goOn

/-- DESTROY heard (R16). -/
def State.hearDestroy (s : State) (sender : Station) (sf : Surf) : State :=
  s.onHeard sender 0x02 sf
    (if (s.surface sf).lock.isSome then s.voidState sender 0x02 (some sf) 0 .locked
     else { s with tables := (s.tables.removeAll sf).setEntry sf Entry.free })

/-- SET_VISIBLE heard (R17). -/
def State.hearSetVisible (s : State) (sender : Station) (sf : Surf) (v : Bool) : State :=
  s.onHeard sender 0x03 sf (s.setSurface sf { s.surface sf with visible := v })

/-- The surface is moved to the front, or to the back, of each list that holds it (R11, R18). -/
def Tables.restack (t : Tables) (sf : Surf) (d : Direction) : Tables :=
  let ks := t.holders sf
  match d with
  | .front => (t.removeAll sf).insertFronts sf ks
  | .back => (t.removeAll sf).appendBacks sf ks

/-- RESTACK heard (R18). -/
def State.hearRestack (s : State) (sender : Station) (sf : Surf) (d : Direction) : State :=
  s.onHeard sender 0x04 sf { s with tables := s.tables.restack sf d }

/-- The region of a surface after a RESIZE: the clip to its present reference grid, or the old one where that is empty
(R19). -/
def resizedRegion (e : Entry) (r : Region) : Option Region :=
  match clip (refCols e) r.rect with
  | some c => some c
  | none => e.region

/-- RESIZE heard (R19). -/
def State.hearResize (s : State) (sender : Station) (sf : Surf) (r : Region) : State :=
  s.onHeard sender 0x05 sf (s.setSurface sf { s.surface sf with region := resizedRegion (s.surface sf) r })

/-- ARRIVED heard (R20). -/
def State.hearArrived (s : State) (sender : Station) (sf : Surf) : State :=
  s.onHeard sender 0x06 sf (s.setSurface sf { s.surface sf with arriving := none })

end Sys2Proof.Machine
end

