-- ==== Sys2Proof/Machine/Transaction.lean ====
section
/-! DEFINITION. Handover transactions (04_handover_transactions.md): MOVE, RETURN, CANCEL, ACCEPT, DECLINE; PROPOSE, READY,
REFUSE and CANCEL as heard; commit; and the RELAY command (R150). -/

namespace Sys2Proof.Machine

/-! ### MOVE and RETURN (R74 to R77) -/

/-- Checks 1 to 4 of R75. -/
def State.onUnlocked (s : State) (b : Byte) (goOn : Surf → State × Result) : State × Result :=
  s.atActivePanel
    (match toSurf b with
      | none => (s, .noSurface)
      | some sf =>
        if (s.surface sf).state = .free then (s, .noSurface)
        else if (s.surface sf).lock.isSome then (s, .locked)
        else goOn sf)

/-- The destination of a MOVE, with whether the clip changed it: none is BAD_ARG (R74, check 6 of R75). -/
def moveDest (cfg : ConfigItems) (e : Entry) (target mode a b c d : Byte) : Option (Placement × Bool) := do
  let t ← toTarget target
  if targetConfigured cfg t then
    let present ← e.region
    let q ← modeRect mode present (some (fullRegion t)) a b c d
    let (r, changed) ← clipArg (gridCols t) q
    return (⟨t, r⟩, changed)
  else none

/-- Check 8 of R75 and R77: a PROPOSE under the next sequence number. -/
def State.propose (s : State) (m : TxnId → Msg) : State × Result :=
  let i : TxnId := ⟨s.own, s.txns.seq⟩
  let r := s.request .transaction (m i)
  if r.2 then
    ({ r.1 with txns := { r.1.txns with seq := r.1.txns.seq + 1, ownOpen := r.1.txns.ownOpen + 1 } }, .queuedTxn i)
  else (r.1, .noBuffer)

/-- RETURN_REPLACED holds (R76). -/
def returnReplaced (e : Entry) (retFlag : Bool) : Bool := retFlag && e.ret.isSome && e.state != .parked

/-- Checks 6 and 7 of R75, the soft conditions of R76, and the PROPOSE of a MOVE. -/
def State.moveSurface (s : State) (sf : Surf) (target mode a b c d ret : Byte) : State × Result :=
  match moveDest s.port.cfg (s.surface sf) target mode a b c d with
  | none => (s, .badArg)
  | some (p, changed) =>
    if 2 ≤ s.txns.ownOpen then (s, .limit)
    else
      s.soft changed .clipped 0x20 (some sf) (fun s =>
        s.soft (returnReplaced (s.surface sf) (toFlag ret)) .returnReplaced 0x20 (some sf) (fun s =>
          s.propose (fun i => .proposeMove i sf p (toFlag ret))))

/-- The arguments of MOVE: surface, to-target, region mode, four bytes, return flag. -/
def moveArgs (args : List Byte) (s : State) : State × Result :=
  match args with
  | [b, target, mode, x, y, w, h, ret] => s.onUnlocked b (fun sf => s.moveSurface sf target mode x y w h ret)
  | _ => (s, .badArg)

/-- MOVE: eight argument bytes. -/
def execMove (args : List Byte) (s : State) : Host.Outcome State Fault Refusal :=
  whenRunning s (runCommand 0x20 (args.length == 8) (moveArgs args) s)

/-- RETURN: check 5 and check 7 of R75, then the PROPOSE (R77). -/
def State.returnSurface (b : Byte) (s : State) : State × Result :=
  s.onUnlocked b (fun sf =>
    if (s.surface sf).ret.isNone then (s, .noReturn)
    else if 2 ≤ s.txns.ownOpen then (s, .limit)
    else s.propose (fun i => .proposeReturn i sf))

/-- RETURN: one argument byte. -/
def execReturn (args : List Byte) (s : State) : Host.Outcome State Fault Refusal :=
  whenRunning s (runCommand 0x21 (args.length == 1) (surfaceArg args State.returnSurface) s)

/-! ### CANCEL, ACCEPT and DECLINE (R83, R90) -/

/-- A PROPOSE with an id. -/
def Msg.proposes (i : TxnId) (m : Msg) : Bool :=
  match m.propose? with
  | some (j, _) => j == i
  | none => false

/-- An unsent PROPOSE is withdrawn (R90). -/
def State.withdrawPropose (s : State) (i : TxnId) (sf : Surf) : State :=
  { s with
    pool := { s.pool with transaction := s.pool.transaction.eraseP (Msg.proposes i) } }.endOwn i sf .cancelled

/-- CANCEL of a counted transaction: its PROPOSE is withdrawn, or a CANCEL message is enqueued. -/
def State.cancelTxn (s : State) (i : TxnId) : State × Result :=
  if !s.counted.any (fun c => c.1 == i) then (s, .tooLate)
  else
    match (s.pool.transaction.filterMap Msg.propose?).find? (fun c => c.1 == i) with
    | some (_, sf) => (s.withdrawPropose i sf, .done)
    | none => s.enqueueOr .transaction (.cancel i)

/-- The arguments of CANCEL: a transaction id, whose originator is the own station (check 3 of R90). -/
def cancelArgs (args : List Byte) (s : State) : State × Result :=
  match args with
  | [o, q] =>
    s.atActivePanel (if o = stationByte s.own then s.cancelTxn ⟨s.own, q⟩ else (s, .badArg))
  | _ => (s, .badArg)

/-- CANCEL: two argument bytes. -/
def execCancel (args : List Byte) (s : State) : Host.Outcome State Fault Refusal :=
  whenRunning s (runCommand 0x22 (args.length == 2) (cancelArgs args) s)

/-- The offer record of an id takes a state. -/
def TxnUnit.setOffer (t : TxnUnit) (i : TxnId) (st : OfferState) : TxnUnit :=
  { t with offers := t.offers.map (fun o => if o.id = i then { o with state := st } else o) }

/-- The host's answer to a pending offer: the record's new state and the message enqueued (R83). -/
def State.answerOffer (s : State) (o q : Byte) (st : OfferState) (m : TxnId → Msg) : State × Result :=
  s.atActivePanel
    (match toTxnId o q with
      | none => (s, .tooLate)
      | some i =>
        if s.pendingOffer i then
          ({ s with txns := s.txns.setOffer i st }.enqueueControl (m i), .queued)
        else (s, .tooLate))

/-- The arguments of ACCEPT: a transaction id. -/
def acceptArgs (args : List Byte) (s : State) : State × Result :=
  match args with
  | [o, q] => s.answerOffer o q .accepted .ready
  | _ => (s, .badArg)

/-- ACCEPT: two argument bytes. -/
def execAccept (args : List Byte) (s : State) : Host.Outcome State Fault Refusal :=
  whenRunning s (runCommand 0x23 (args.length == 2) (acceptArgs args) s)

/-- The arguments of DECLINE: a transaction id. -/
def declineArgs (args : List Byte) (s : State) : State × Result :=
  match args with
  | [o, q] => s.answerOffer o q .declined (fun i => .refuse i (some .declined))
  | _ => (s, .badArg)

/-- DECLINE: two argument bytes. -/
def execDecline (args : List Byte) (s : State) : Host.Outcome State Fault Refusal :=
  whenRunning s (runCommand 0x24 (args.length == 2) (declineArgs args) s)

/-! ### RELAY (R150) -/

/-- RELAY by its checks. -/
def State.sendRelay (s : State) (d : Byte) (payload : List Byte) : State × Result :=
  if !s.ctl.linkState.present then (s, .notActive)
  else
    match toStation d with
    | none => (s, .badArg)
    | some k =>
      if payload.length < 1 ∨ 24 < payload.length then (s, .badArg)
      else if k = s.own ∨ s.peerActive k = false then (s, .destAbsent)
      else s.enqueueOr .relay (.relay k payload)

/-- The arguments of RELAY: destination, payload. -/
def relayArgs (args : List Byte) (s : State) : State × Result :=
  match args with
  | d :: payload => s.sendRelay d payload
  | [] => (s, .badArg)

/-- RELAY: 2..25 argument bytes. -/
def execRelay (args : List Byte) (s : State) : Host.Outcome State Fault Refusal :=
  whenRunning s (runCommand 0x30 (2 ≤ args.length && args.length ≤ 25) (relayArgs args) s)

/-! ### Hearing a PROPOSE (R78 to R82) -/

/-- A void PROPOSE: TXN_DONE(VOID) at its originator, whose own open count falls (R78). -/
def State.voidPropose (s : State) (i : TxnId) (sf : Surf) (r : Reason) : State :=
  if i.orig = s.own then s.endOwn i sf (.void r) else s

/-- The destination of a PROPOSE at the hearing (R79): none for a RETURN without a return placement. -/
def proposeDest (e : Entry) : Option Placement → Option Placement
  | some p => some p
  | none => e.ret

/-- An entry of this station's table is full for an originator (check 5 of R78). -/
def tableFull (table : List Txn) (k : Station) : Bool :=
  8 ≤ table.length || 2 ≤ table.countP (fun e => e.id.orig == k)

/-- The entry of an accepted PROPOSE (R80, Table 4-1). -/
def State.openedEntry (s : State) (i : TxnId) (kind : TxnKind) (sf : Surf) (p : Placement) (retFlag : Bool) : Txn :=
  let e := s.surface sf
  let owner := e.owner.toList
  { id := i, kind := kind, surf := sf, origin := e.target, dest := p, retFlag := retFlag
    participants := setOf (owner ++ destStations s.port.cfg p.target)
    answered := setOf (owner.filter (fun k => !s.peerActive k))
    cyclesLeft := s.port.cfg.answerWindow
    reserved := s.placesNeeded sf p.target }

/-- The render group of a station. -/
def ConfigItems.group (c : ConfigItems) (k : Station) : Nat := c.groups[k]

/-- The participant's answer at the hearing of an accepted PROPOSE (R81, R82). -/
def State.answerPropose (s : State) (t : Txn) (e : Entry) : State :=
  if !memSet t.participants s.own then s
  else if (destStations s.port.cfg t.dest.target).contains s.own && s.panel.state != .lit then
    s.enqueueControl (.refuse t.id (some .panelDark))
  else if (destStations s.port.cfg t.dest.target).contains s.own
      && some (s.port.cfg.group s.own) != e.owner.map s.port.cfg.group then
    { s with
      txns := { s.txns with offers := s.txns.offers ++ [(⟨t.id, s.port.cfg.offerLimit, .pending⟩ : Offer)] } }.notify
      (.handoverOffer t.id t.surf e.appTag e.owner t.origin t.dest)
  else s.enqueueControl (.ready t.id)

/-- A PROPOSE that passes every check is accepted (R80). -/
def State.acceptPropose (s : State) (i : TxnId) (kind : TxnKind) (sf : Surf) (p : Placement) (retFlag : Bool) : State :=
  let t := s.openedEntry i kind sf p retFlag
  let e := s.surface sf
  let s := { s with txns := { s.txns with table := s.txns.table ++ [t] } }
  (s.setSurface sf { e with lock := some i }).answerPropose t e

/-- PROPOSE heard (R78); `dest` is the destination of a MOVE, none for RETURN. -/
def State.hearPropose (s : State) (i : TxnId) (kind : TxnKind) (sf : Surf) (dest : Option Placement) (retFlag : Bool) :
    State :=
  let e := s.surface sf
  if s.div.freezeFlag then s.voidPropose i sf .frozen
  else if e.state = .free then s.voidPropose i sf .noSurface
  else if e.lock.isSome then s.voidPropose i sf .locked
  else
    match proposeDest e dest with
    | none => s.voidPropose i sf .noReturn
    | some p =>
      if tableFull s.txns.table i.orig then s.voidPropose i sf .tableFull
      else if !(destStations s.port.cfg p.target).all s.peerActive then s.voidPropose i sf .destAbsent
      else if !s.roomFor sf p.target then s.voidPropose i sf .noRoom
      else s.acceptPropose i kind sf p retFlag

/-! ### Commit (R87, R88) -/

/-- The return placement after a commit. -/
def commitReturn (e : Entry) (retFlag : Bool) : Option Placement :=
  if retFlag then
    match e.target, e.region with
    | some t, some r => some ⟨t, r⟩
    | _, _ => e.ret
  else none

/-- The entry of a surface after a commit (R87). -/
def committedEntry (cfg : ConfigItems) (e : Entry) (t : Txn) : Entry :=
  { e with
    state := .placed, target := some t.dest.target, region := some t.dest.region, ret := commitReturn e t.retFlag
    implicit := false, arriving := none, lock := none, owner := targetOwner cfg t.dest.target }

/-- The placement table after a commit: out of every list, at the front of each destination list (R87). -/
def committedTables (cfg : ConfigItems) (tb : Tables) (t : Txn) : Tables :=
  ((tb.removeAll t.surf).insertFronts t.surf (destStations cfg t.dest.target)).setEntry t.surf
    (committedEntry cfg (tb.entry t.surf) t)

/-- The notices of a commit, in order (R88). -/
def State.commitNotices (s : State) (t : Txn) (before : Entry) : State :=
  let after := targetOwner s.port.cfg t.dest.target
  let s := if t.id.orig = s.own then s.endOwn t.id t.surf .committed else s
  let s :=
    if before.owner ≠ after then
      s.notifyAt before.owner
        (.surfaceLost t.surf before.appTag t.dest (before.owner.getD s.own) (.committed t.id))
    else s
  s.notifyAt after (.surfaceGained t.surf before.appTag t.dest (after.getD s.own) (.committed t.id))

/-- An entry whose participants have all answered commits (R85, R87, R88). -/
def State.commit (s : State) (t : Txn) : State :=
  let before := s.surface t.surf
  let s :=
    { s with
      tables := committedTables s.port.cfg s.tables t, txns := s.txns.takeOut t
      pool := s.pool.withdrawAnswers t.id }
  s.commitNotices t before

/-- READY heard (R86), for the entry that `State.entry?` finds, the first of two with one id (log entry 47). -/
def State.hearReady (s : State) (sender : Station) (i : TxnId) : State :=
  match s.entry? i with
  | none => s
  | some t =>
    if !memSet t.participants sender then s
    else
      let t' := { t with answered := addSet t.answered sender }
      let s := { s with txns := { s.txns with table := s.txns.table.replace t t' } }
      if t'.answered = t'.participants then s.commit t' else s

/-- REFUSE heard (R89). A reason that has a code and that no rule has a REFUSE carry is reported as it came: DESIGN CHOICE,
log entry 49. -/
def State.hearRefuse (s : State) (sender : Station) (i : TxnId) (r : Option Reason) : State :=
  match s.entry? i with
  | none => s
  | some t => if memSet t.participants sender then s.removeTxn t (.refused sender r) else s

/-- CANCEL heard (R91). -/
def State.hearCancel (s : State) (sender : Station) (i : TxnId) : State :=
  match s.entry? i with
  | none => s
  | some t => if i.orig = sender then s.removeTxn t .cancelled else s

end Sys2Proof.Machine
end

