-- ==== Sys2Proof/Machine/Panel.lean ====
section
/-! DEFINITION. The panel controller (09_panels_and_scanout.md): BLANK, WAKE, LATCH, and its work at a cycle start
(R166, R168, R170 to R175). -/

namespace Sys2Proof.Machine

/-! ### BLANK and WAKE (R164, R167) -/

/-- BLANK taken with the panel LIT. -/
def State.blankLit (s : State) : State × Result :=
  let limit := s.port.cfg.blankIdleLimit
  if s.panelIdle then
    ({ s with panel := { s.panel with state := .blankPending, blankWait := limit, darkMark := true } }, .done)
  else if limit = 0 then (s, .notIdle)
  else ({ s with panel := { s.panel with state := .blankPending, blankWait := limit, darkMark := false } }, .queued)

/-- BLANK by role and panel state (R164). -/
def State.blank (s : State) : State × Result :=
  if !s.isPanel then (s, .notPanel)
  else
    match s.panel.state with
    | .lit => s.blankLit
    | .blankPending => (s, .queued)
    | .dark => (s, .done)
    | .waking => (s, .busy)

/-- BLANK: the command has no arguments. -/
def execBlank (args : List Byte) (s : State) : Host.Outcome State Fault Refusal :=
  whenRunning s (runCommand 0x31 args.isEmpty State.blank s)

/-- WAKE by role and panel state (R167). -/
def State.wake (s : State) : State × Result :=
  if !s.isPanel then (s, .notPanel)
  else
    match s.panel.state with
    | .dark => ({ s with panel := { s.panel with state := .waking, wakeCount := s.port.cfg.wakeTime } }, .queued)
    | .blankPending =>
      ({ s with panel := { s.panel with state := .lit, blankWait := 0, darkMark := false } }.notify
        (.panel .blankCancelled .lit), .done)
    | .lit | .waking => (s, .done)

/-- WAKE: the command has no arguments. -/
def execWake (args : List Byte) (s : State) : Host.Outcome State Fault Refusal :=
  whenRunning s (runCommand 0x32 args.isEmpty State.wake s)

/-! ### LATCH (R173) -/

/-- A LATCH pulse acknowledges the outstanding transfer; without one, and at a SENSOR station, it is ignored. -/
def State.latch (s : State) : State :=
  if s.isPanel && s.panel.outstanding.isSome then
    let was := s.panel.degraded
    let s := { s with panel := { s.panel with outstanding := none, missCount := 0, degraded := false } }
    if was then s.notify (.panel .recovered s.panel.state) else s
  else s

/-- LATCH. -/
def execLatch (s : State) : Host.Outcome State Fault Refusal := whenRunning s s.latch

/-! ### The scanout transfer (R171, R172) -/

/-- The part of a SPAN region on the lower-numbered panel, with its source column offset. -/
def cutLow (r : Region) : Option (Region × Nat) :=
  if r.x < 24 then some ({ r with w := min (r.x + r.w) 24 - r.x }, 0) else none

/-- The part of a SPAN region on the higher-numbered panel, with its source column offset. -/
def cutHigh (r : Region) : Option (Region × Nat) :=
  let left := max r.x 24
  if left < r.x + r.w then some ({ r with x := left - 24, w := r.x + r.w - left }, 24 - r.x) else none

/-- The part of a target's region on the panel of station `k`, with its source column offset. -/
def partOn (cfg : ConfigItems) (k : Station) (t : Target) (r : Region) : Option (Region × Nat) :=
  match t with
  | .panel j => if j = k then some (r, 0) else none
  | .span => if spanLow cfg = some k then cutLow r else cutHigh r

/-- The entry record of a surface of the own stacking list, where it gives one. -/
def State.scanEntry (s : State) (sf : Surf) : Option ScanEntry :=
  let e := s.surface sf
  match e.target, e.region with
  | some t, some r =>
    if e.visible then
      (partOn s.port.cfg s.own t r).map (fun p => ⟨sf, e.appTag, p.1, p.2, e.arriving.isSome⟩)
    else none
  | _, _ => none

/-- The LIST entries of the own stacking list, front to back. -/
def State.scanList (s : State) : List ScanEntry := (s.tables.lists[s.own]).filterMap s.scanEntry

/-- The entries of a LIST transfer by link state (Table 9-4). -/
def State.listNow (s : State) : List ScanEntry :=
  match s.ctl.linkState with
  | .active => s.scanList
  | .resync => s.panel.lastList
  | .halted | .listen | .coldstart | .integrating => []

/-- A LIST transfer is sent and becomes the last list and the outstanding transfer. -/
def State.sendList (s : State) : State :=
  let es := s.listNow
  { s with
    panel :=
      { s.panel with
        lastList := es, outstanding := some ⟨.list, s.link.cycle⟩
        scanOut := transferBytes .list s.own s.link.cycle es } }

/-- An OFF transfer is sent and becomes the outstanding transfer. -/
def State.sendOff (s : State) : State :=
  { s with
    panel :=
      { s.panel with
        outstanding := some ⟨.off, s.link.cycle⟩, scanOut := transferBytes .off s.own s.link.cycle [] } }

/-- The transfer of a cycle start (Table 9-4); `wasDark`: the panel state before this cycle start was DARK. -/
def State.sendTransfer (s : State) (wasDark : Bool) : State :=
  match s.panel.state with
  | .lit | .blankPending => s.sendList
  | .dark => if wasDark then s else s.sendOff
  | .waking => s

/-! ### Work at a cycle start (R170) -/

/-- Step 1: an outstanding transfer is a missed latch (R174, R175). -/
def State.settleLatch (s : State) : State :=
  match s.panel.outstanding with
  | none => s
  | some o =>
    let s := { s with panel := { s.panel with outstanding := none } }
    if s.panel.missCount < 3 then
      let n := s.panel.missCount + 1
      let deg := s.panel.degraded || n == 3
      { s with panel := { s.panel with missCount := n, degraded := deg } }.notify (.latchMissed o.kind o.cycle n deg)
    else s

/-- A blank is refused: the panel is LIT with PANEL(BLANK_REFUSED) (R165, R166). -/
def State.refuseBlank (s : State) : State :=
  { s with panel := { s.panel with state := .lit } }.notify (.panel .blankRefused .lit)

/-- A BLANK_PENDING panel with the dark mark goes DARK, or loses the mark (R166). -/
def State.darken (s : State) : State :=
  if s.panelIdle then
    { s with panel := { s.panel with state := .dark, darkMark := false } }.notify (.panel .dark .dark)
  else
    let s := { s with panel := { s.panel with darkMark := false } }
    if s.panel.blankWait = 0 then s.refuseBlank else s

/-- A WAKING panel whose wake count has run out is LIT with PANEL(LIT) (R168). -/
def State.wakeExpired (s : State) : State :=
  if s.panel.state = .waking ∧ s.panel.wakeCount = 0 then
    { s with panel := { s.panel with state := .lit } }.notify (.panel .lit .lit)
  else s

/-- Step 2: the panel-state changes of a cycle start (R166, R168). -/
def State.panelChanges (s : State) : State :=
  match s.panel.state with
  | .blankPending => if s.panel.darkMark then s.darken else s
  | .waking => State.wakeExpired { s with panel := { s.panel with wakeCount := s.panel.wakeCount - 1 } }
  | .lit | .dark => s

/-- The panel controller's work at a cycle start (R170); a SENSOR station has no panel controller (R162). -/
def State.panelCycleStart (s : State) : State :=
  if s.isPanel then
    let wasDark := s.panel.state == .dark
    let s := s.settleLatch.panelChanges
    let quiet := wasDark && s.panel.state == .dark
    State.sendTransfer { s with panel := { s.panel with fsync := !quiet, scanOut := [] } } wasDark
  else s

/-- WAKE_COUNT_EXPIRY: the panel is LIT and the list of this cycle start is sent (R168; log entry 6). -/
def execWakeCountExpiry (s : State) : Host.Outcome State Fault Refusal :=
  whenRunning s
    (if s.isPanel ∧ s.panel.state = .waking ∧ s.panel.wakeCount = 0 then s.wakeExpired.sendList else s)

end Sys2Proof.Machine
end

