-- ==== Sys2Proof/Machine/Cycle.lean ====
section
/-! DEFINITION. CYCLE_START (R27, R97, R128, R136, R138, R151, R170) and PACK_OWN_FRAME (R31, R32, R139, R154 to R157). -/

namespace Sys2Proof.Machine

/-! ### The angle sample and the own digest (R97, R128) -/

/-- The sample formed from the read that serves a cycle start: valid where the read gave a usable angle. -/
def sampleOf (kind : AngleKind) (read : SensorRead) : Sample :=
  match read with
  | .done (.reading v) => if kind ≠ .none ∧ v.toNat ≤ 1850 then ⟨kind, true, v.toNat⟩ else ⟨kind, false, 0⟩
  | .done .failed | .running | .idle => ⟨kind, false, 0⟩

/-- The own sample is formed; a read that is still running is abandoned with a stop condition (R96, R97). -/
def State.formSample (s : State) : State :=
  { s with
    angle := { s.angle with ownSample := sampleOf s.ctl.straps.angle s.angle.read, read := .idle }
    sensorBus := if s.angle.read = .running then [.stop] else s.sensorBus }

/-- The own digest of an ACTIVE PANEL station; not holding elsewhere (R128). -/
def State.formDigest (s : State) : State :=
  { s with div := { s.div with ownDigest := if s.activePanel then some s.digestNow else none } }

/-! ### Freeze begin and next-cycle mark (R136, R138) -/

/-- The next dump item from a surface index on. -/
def Tables.dumpFrom (t : Tables) (n : Nat) : DumpCursor :=
  match surfs.find? (fun sf => n ≤ sf.val && (t.entry sf).state != .free) with
  | some sf => .next sf
  | none => .dumpEnd

/-- WAITING becomes COLLECTING with no records. -/
def DumpState.begin : DumpState → DumpState
  | .waiting => .collecting []
  | .none => .none
  | .asked => .asked
  | .collecting rs => .collecting rs

/-- The work of a tracking station at a cycle start that begins a freeze. -/
def State.beginFreeze (s : State) : State :=
  { s with
    div :=
      { s.div with
        freezeCount := 1, freezeFlag := s.ctl.linkState.present, pendingRequest := false, nextMark := false
        dumpState := s.div.dumpState.begin
        cursor :=
          if s.div.freezeGiver = some s.own ∧ s.ctl.linkState = .active then s.tables.dumpFrom 0
          else s.div.cursor } }

/-- The freeze at a cycle start: begun, counted on, or a marked request cycle. -/
def State.freezeCycleStart (s : State) : State :=
  if s.tracking then
    if s.div.freezeCount = 0 ∧ s.div.freezeGiver.isSome then s.beginFreeze
    else
      { s with
        div :=
          { s.div with
            freezeCount := if s.div.freezeCount = 0 then 0 else min 8 (s.div.freezeCount + 1)
            requestCycle := s.div.requestCycle || s.div.nextMark, nextMark := false } }
  else s

/-! ### Relay hold (R151) -/

/-- The own relay hold after a reading of the notice count. -/
def relayHoldAfter (hold : Bool) (n : Nat) : Bool := if hold then !(n ≤ 4) else 12 ≤ n

/-- The own relay hold is read from the notice queue. -/
def State.readRelayHold (s : State) : State :=
  { s with pool := { s.pool with relayHold := relayHoldAfter s.pool.relayHold s.port.notices.length } }

/-! ### CYCLE_START -/

/-- The cycle count rises and the timer stands at cycle start (R27); whether this cycle start is taken in INTEGRATING
is kept for R52. -/
def State.beginCycle (s : State) : State :=
  { s with
    link := { s.link with cycle := s.link.cycle + 1, timer := 0 }
    ctl := { s.ctl with fullCycle := s.ctl.linkState == .integrating }
    rx := Receiver.idle }

/-- The blocks' work at a cycle start; `holdFirst`: the pool reads the notice count before the panel controller adds
its notices (log entry 5). -/
def State.cycleStart (s : State) (holdFirst : Bool) : State :=
  let s := s.beginCycle.formSample.formDigest.freezeCycleStart
  if holdFirst then s.readRelayHold.panelCycleStart else s.panelCycleStart.readRelayHold

/-- CYCLE_START. -/
def execCycleStart (holdFirst : Bool) (s : State) : Host.Outcome State Fault Refusal :=
  whenRunning s (s.cycleStart holdFirst)

/-! ### Packing (R139, R154 to R157) -/

/-- A frame being packed: what is left of the queues, the messages taken in order, the places and the relays left. -/
structure Packing where
  pool : Pool
  cursor : DumpCursor
  msgs : List Msg
  places : Nat
  relays : Nat
  deriving DecidableEq, Repr

/-- The messages of a list are taken. -/
def Packing.add (p : Packing) (ms : List Msg) : Packing :=
  { p with msgs := p.msgs ++ ms, places := p.places - ms.length }

/-- The DUMP record of a surface (R139). -/
def State.dumpRecord (s : State) (sf : Surf) : DumpRecord where
  surf := sf
  entry := { s.surface sf with lock := none }
  z := #v[zPosition s.tables.lists[0] sf, zPosition s.tables.lists[1] sf, zPosition s.tables.lists[2] sf,
    zPosition s.tables.lists[3] sf]

/-- The entries that are not FREE. -/
def Tables.used (t : Tables) : Nat := surfs.countP (fun sf => (t.entry sf).state != .free)

/-- One dump item at a cursor, with the cursor after it. -/
def State.dumpItem (s : State) : DumpCursor → Option (Msg × DumpCursor)
  | .next sf => some (.dump (s.dumpRecord sf), s.tables.dumpFrom (sf.val + 1))
  | .dumpEnd => some (.dumpEnd s.tables.used s.angle.ps s.digestNow, .done)
  | .done => none

/-- Up to `n` dump items. -/
def State.packDump (s : State) : Nat → Packing → Packing
  | 0, p => p
  | n + 1, p =>
    match s.dumpItem p.cursor with
    | some (m, c) => s.packDump n { p.add [m] with cursor := c }
    | none => p

/-- The station packs dump items in this frame. -/
def State.givesDump (s : State) : Bool :=
  s.div.freezeGiver == some s.own && s.ctl.linkState == .active && s.div.freezeFlag

/-- CONTROL messages in queue order. -/
def Packing.takeControl (p : Packing) : Packing :=
  { p.add (p.pool.control.take p.places) with
    pool := { p.pool with control := p.pool.control.drop p.places } }

/-- At most `n` TRANSACTION messages. -/
def Packing.takeTransaction (n : Nat) (p : Packing) : Packing :=
  let k := min n p.places
  { p.add (p.pool.transaction.take k) with
    pool := { p.pool with transaction := p.pool.transaction.drop k } }

/-- At most `n` STATE messages. -/
def Packing.takeState (n : Nat) (p : Packing) : Packing :=
  let k := min n p.places
  { p.add (p.pool.state.take k) with pool := { p.pool with state := p.pool.state.drop k } }

/-- The first `n` relays of a queue whose destination is not held, and what is left of the queue (R157). -/
def splitRelays (held : Station → Bool) : Nat → List RelayMsg → List RelayMsg × List RelayMsg
  | _, [] => ([], [])
  | 0, rs => ([], rs)
  | n + 1, r :: rs =>
    if held r.dest then
      let q := splitRelays held (n + 1) rs
      (q.1, r :: q.2)
    else
      let q := splitRelays held n rs
      (r :: q.1, q.2)

/-- At most `n` eligible relays. -/
def Packing.takeRelays (held : Station → Bool) (n : Nat) (p : Packing) : Packing :=
  let q := splitRelays held (min n (min p.places p.relays)) p.pool.relay
  { p.add (q.1.map (fun r => .relay r.dest r.payload)) with
    pool := { p.pool with relay := q.2 }, relays := p.relays - q.1.length }

/-- FIXED servicing (R155). -/
def Packing.fixed (held : Station → Bool) (p : Packing) : Packing :=
  ((p.takeTransaction 6).takeState 6).takeRelays held 6

/-- One round of WEIGHTED servicing (R156). -/
def Packing.round (c : ConfigItems) (held : Station → Bool) (p : Packing) : Packing :=
  ((p.takeTransaction c.weightTransaction).takeState c.weightState).takeRelays held c.weightRelay

/-- At most `n` rounds: a new round begins where places are left and the last round took a message. -/
def Packing.weighted (c : ConfigItems) (held : Station → Bool) : Nat → Packing → Packing
  | 0, p => p
  | n + 1, p =>
    let q := p.round c held
    if q.places = 0 ∨ q.places = p.places then q else Packing.weighted c held n q

/-- The destination's relay hold in the peer view. -/
def State.relayHeld (s : State) (k : Station) : Bool :=
  match s.ctl.peers[k] with
  | some p => p.relayHold
  | none => false

/-- The frame's messages are chosen, in three parts (R154). A round of WEIGHTED servicing that goes on takes a message,
so six rounds fill a frame. -/
def State.packFrame (s : State) : Packing :=
  let p : Packing := ⟨s.pool, s.div.cursor, [], 6, s.port.cfg.relayCap⟩
  let p := (if s.givesDump then s.packDump 4 p else p).takeControl
  if s.port.cfg.weighted then Packing.weighted s.port.cfg s.relayHeld 6 p else p.fixed s.relayHeld

/-! ### The header (R32) and PACK_OWN_FRAME -/

/-- The header of an own frame as the state stands. Only an ACTIVE PANEL station publishes a digest: in INTEGRATING and
RESYNC the frame carries the not-holding flag (R52, R128, R131), whatever the last cycle start computed. -/
def State.ownHeader (s : State) : Header where
  station := s.own
  role := s.ctl.straps.role
  state := s.ctl.linkState
  cycle := s.link.cycle
  coldstart := s.ctl.linkState == .coldstart
  bye := s.ctl.leavePending
  relayHold := s.pool.relayHold
  degraded := s.isPanel && s.panel.degraded
  frozen := s.div.freezeFlag
  panelState := if s.isPanel then s.panel.state else .lit
  sample := s.angle.ownSample
  configDigest := if s.isPanel then s.port.configDigest else none
  tableDigest := if s.activePanel then s.div.ownDigest else none

/-- A frame goes out: its header, its messages and its bytes. -/
def State.send (s : State) (ms : List Msg) : State :=
  { s with link := { s.link with timer := slotStart s.own, sending := some ⟨s.ownHeader, ms, frameBytes s.ownHeader ms⟩ } }

/-- The own frame is packed: BYE without a message where a LEAVE is pending (R65), else the pool's choice. -/
def State.packOwn (s : State) : State :=
  if s.ctl.leavePending then s.send []
  else
    let p := s.packFrame
    State.send { s with pool := p.pool, div := { s.div with cursor := p.cursor } } p.msgs

/-- Nothing is being sent. -/
def State.stopSending (s : State) : State := { s with link := { s.link with sending := none } }

/-- An own frame is outrun: it began in COLDSTART before the frame that brought INTEGRATING moved the timer, and is not the
frame of the moved cycle's own slot (R51, log entry 43). -/
def State.outrun (s : State) (f : OwnFrame) : Bool := f.header.state == .coldstart && s.ctl.linkState == .integrating

/-- The frame of the running cycle's own slot that is being sent. -/
def State.slotFrame (s : State) : Option OwnFrame := s.link.sending.filter (fun f => !s.outrun f)

/-- The own frame of the cycle may begin: a sending state, no frame of the own slot being sent, and the own slot of this
cycle not yet settled by one (R31, R35). -/
def State.mayPack (s : State) : Bool :=
  s.ctl.linkState.sends && s.slotFrame.isNone && !memSet s.link.settled s.own

/-- PACK_OWN_FRAME once in a cycle, in a sending state; at any other moment there is no such event (log entry 16). -/
def execPackOwnFrame (s : State) : Host.Outcome State Fault Refusal :=
  whenRunning s (if s.mayPack then s.stopSending.packOwn else s)

end Sys2Proof.Machine
end

