-- ==== Sys2Proof/Machine/Frame.lean ====
section
/-! DEFINITION. FRAME_ARRIVAL (R29, R30, R33, R35 to R41): the outcome of one slot, the frame handed on, the alignment
(R51, R56), the peer view (R60 to R63) and the messages as their owners take them (R40). -/

namespace Sys2Proof.Machine

/-! ### The divergence monitor's messages (R133, R138, R140, R141) -/

/-- RESYNC_REQ heard by a tracking station (R133). -/
def State.hearResyncReq (s : State) (sender : Station) : State :=
  let d := s.div
  let d := if d.freezeCount = 0 then { d with requestCycle := true } else { d with pendingRequest := true }
  { s with
    div := if sender = s.own ∧ d.dumpState = .asked then { d with dumpState := .waiting } else d }

/-- The records of a requester in COLLECTING whose freeze giver is the station. -/
def DivUnit.collectingFrom (d : DivUnit) (k : Station) : Option (List DumpRecord) :=
  match d.dumpState with
  | .collecting rs => if d.freezeGiver = some k then some rs else none
  | .none | .asked | .waiting => none

/-- A collection from the station's frames fails: the records are discarded and the attempt has failed (R140). -/
def State.failCollection (s : State) (k : Station) : State :=
  match s.div.collectingFrom k with
  | some _ => s.failAttempt
  | none => s

/-- The id is above that of the record before it. -/
def higherThanLast (rs : List DumpRecord) (sf : Surf) : Bool :=
  match rs.getLast? with
  | some r => r.surf < sf
  | none => true

/-- DUMP heard (R140). -/
def State.hearDump (s : State) (sender : Station) (r : DumpRecord) : State :=
  match s.div.collectingFrom sender with
  | some rs =>
    if higherThanLast rs r.surf then { s with div := { s.div with dumpState := .collecting (rs ++ [r]) } }
    else s.failAttempt
  | none => s

/-- One stacking list from the z positions: none where positions are shared, leave a gap, or pass 6 (R141). -/
def rebuildList (rs : List DumpRecord) (k : Station) : Option (List Surf) :=
  let n := rs.countP (fun r => r.z[k] != 0)
  if 6 < n then none
  else (List.range n).mapM (fun i => (rs.find? (fun r => r.z[k] == i + 1)).map DumpRecord.surf)

/-- A PLACED surface stands in its target's lists and no other (R8), a PARKED surface in none (R141, log entry 19). -/
def recordListed (cfg : ConfigItems) (r : DumpRecord) : Bool :=
  let wanted : List Station :=
    match r.entry.state, r.entry.target with
    | .placed, some t => destStations cfg t
    | _, _ => []
  stations.all (fun k => (r.z[k] != 0) == wanted.contains k)

/-- The tables of a dump: none where the installation fails (R141). -/
def rebuildTables (cfg : ConfigItems) (rs : List DumpRecord) : Option Tables := do
  let l0 ← rebuildList rs 0
  let l1 ← rebuildList rs 1
  let l2 ← rebuildList rs 2
  let l3 ← rebuildList rs 3
  if rs.all (recordListed cfg) then
    return { rs.foldl (fun t r => t.setEntry r.surf { r.entry with lock := none }) Tables.empty with
      lists := #v[l0, l1, l2, l3] }
  else none

/-- The posture state of a DUMP_END is installed (R111). -/
def State.installPosture (s : State) (p : PostureState) : State :=
  State.setPosture
    { s with
      angle := { s.angle with ps := { p with posture := s.angle.ps.posture }, angleValid := p.stale != 10 } }
    p.posture .dump

/-- A verified installation: the requester is ACTIVE (R141). -/
def State.installed (s : State) : State :=
  { s with
    div := { s.div with dumpState := .none, attempts := 0 }
    ctl := { s.ctl with joinPending := false } }.enterLink .active
    (if s.ctl.linkState = LinkState.resync then .resynced else .joined)

/-- A failed installation: a joining station clears its tables, and the angle and posture unit takes its starting values,
the sample set with them; a station in RESYNC keeps what it holds (R99, R141, R143). -/
def State.failInstall (s : State) : State :=
  if s.ctl.linkState = .integrating then
    let s := s.clearTables
    State.failAttempt { s with angle := { s.angle.restart with samples := #v[none, none, none, none] } }
  else s.failAttempt

/-- The installation of a dump (R141). -/
def State.install (s : State) (rs : List DumpRecord) (count : Nat) (p : PostureState) (digest : Word) : State :=
  if count ≠ rs.length then s.failInstall
  else
    match rebuildTables s.port.cfg rs with
    | none => s.failInstall
    | some tb =>
      let s := State.installPosture { s with tables := tb, txns := { s.txns with table := [], offers := [] } } p
      if s.digestNow = digest then s.installed else s.failInstall

/-- DUMP_END as a requester in COLLECTING takes it: from its freeze giver the dump is installed, from another station
the collection fails (R140, R141). -/
def State.takeDumpEnd (s : State) (sender : Station) (count : Nat) (p : PostureState) (digest : Word) : State :=
  match s.div.dumpState with
  | .collecting rs => if s.div.freezeGiver = some sender then s.install rs count p digest else s.failAttempt
  | .none | .asked | .waiting => s

/-- DUMP_END heard: the freeze ends; with no freeze running it is ignored (R138). -/
def State.hearDumpEnd (s : State) (sender : Station) (count : Nat) (p : PostureState) (digest : Word) : State :=
  if s.div.freezeCount = 0 then s else (s.takeDumpEnd sender count p digest).endFreeze

/-! ### RELAY heard (R153) -/

/-- A RELAY heard: RELAY_IN at its destination, or a drop where the notice queue is full. -/
def State.hearRelay (s : State) (sender dest : Station) (payload : List Byte) : State :=
  if dest ≠ s.own then s
  else if s.port.notices.length < 16 then s.notify (.relayIn sender payload)
  else s.drop .relay .inboundFull 0x40 (some sender)

/-! ### Messages in frame order (R40) -/

/-- A message handed to its owning block, which applies it in the link states its rules name (R12, R54, R78, R133). -/
def State.hearMsg (s : State) (sender : Station) (m : Msg) : State :=
  match m with
  | .relay d p => s.hearRelay sender d p
  | .resyncReq _ => if s.tracking then s.hearResyncReq sender else s
  | .dump r => if s.tracking then s.hearDump sender r else s
  | .dumpEnd n p w => if s.tracking then s.hearDumpEnd sender n p w else s
  | .create tag a r v => if s.activePanel then s.hearCreate sender tag a r v else s
  | .destroy sf => if s.activePanel then s.hearDestroy sender sf else s
  | .setVisible sf v => if s.activePanel then s.hearSetVisible sender sf v else s
  | .restack sf d => if s.activePanel then s.hearRestack sender sf d else s
  | .resize sf r => if s.activePanel then s.hearResize sender sf r else s
  | .arrived sf => if s.activePanel then s.hearArrived sender sf else s
  | .proposeMove i sf p f => if s.activePanel then s.hearPropose i .move sf (some p) f else s
  | .proposeReturn i sf => if s.activePanel then s.hearPropose i .ret sf none false else s
  | .cancel i => if s.activePanel then s.hearCancel sender i else s
  | .ready i => if s.activePanel then s.hearReady sender i else s
  | .refuse i r => if s.activePanel then s.hearRefuse sender i r else s

/-- A message of a heard frame; one with no assigned meaning is ignored (R190, log entry 17). -/
def State.takeMsg (s : State) (sender : Station) (m : HeardMsg) : State :=
  match m.content with
  | some m => if s.ctl.linkState.receiving && m.meaningful s.port.cfg sender then s.hearMsg sender m else s
  | none => s

/-- The messages of a heard frame, each applied whole before the next. -/
def State.takeMsgs (s : State) (sender : Station) (ms : List HeardMsg) : State :=
  ms.foldl (fun s m => s.takeMsg sender m) s

/-! ### The header (R60 to R63, R98, R130) -/

/-- The peer-view entry of a header. -/
def Header.peer (h : Header) : Peer := ⟨h.state, h.role, h.degraded, h.relayHold, h.configDigest⟩

/-- The header at the station controller: the entry is filled, with PEER(JOINED) for another station's that was ABSENT;
BYE declares its sender lost. -/
def State.takeHeader (s : State) (h : Header) : State :=
  let k := h.station
  let absent := s.ctl.peers[k].isNone
  if h.bye then (if absent || k == s.own then s else s.declareLost k true)
  else
    let s := s.setPeer k (some h.peer)
    if absent && k != s.own then s.notify (.peer k (.joined h.role)) else s

/-- The sample of an ACTIVE or RESYNC station enters the sample set (R98). -/
def State.takeSample (s : State) (h : Header) : State :=
  if !h.bye && h.state.present then
    { s with angle := { s.angle with samples := s.angle.samples.set h.station (some h.sample) } }
  else s

/-- A candidate frame of the reference digest (R130). -/
def Header.candidate (h : Header) : Bool :=
  h.state == .active && h.role == .panel && !h.bye && h.tableDigest.isSome

/-- The digest of a candidate frame is kept for the tail start, one of each station (R130). Of two candidate frames of one
station in a cycle, which free reception can bring, the later stands: DESIGN CHOICE, log entry 44. -/
def State.takeCandidate (s : State) (h : Header) : State :=
  if h.candidate then
    { s with div := { s.div with candidates := s.div.candidates.set h.station h.tableDigest } }
  else s

/-! ### The own arrival (R33, R59, R65) -/

/-- The own frame is handed on as it was sent. -/
def State.handOwn (s : State) (f : OwnFrame) : State :=
  let s := if f.header.bye then s else s.setPeer s.own (some f.header.peer)
  ((s.takeSample f.header).takeCandidate f.header).takeMsgs s.own (f.msgs.map Msg.heard)

/-- The clash count at an own-slot arrival: the second CLASH in a row detaches (R59). -/
def State.countClash (s : State) (clash : Bool) : State :=
  let n := if clash then s.ctl.clashCount + 1 else 0
  let s := { s with ctl := { s.ctl with clashCount := n } }
  if 2 ≤ n then s.detach .clash false else s

/-- The transmission of an own frame is over: its buffers are free, and its slot is settled. An outrun frame had its slot in
the cycle of the old timer, and leaves the own slot of the moved cycle and the timer as they are (R51, log entry 43). -/
def State.endSending (s : State) (f : OwnFrame) : State :=
  let ending := expectedStart s.own + frameTime f.bytes.length
  { s with
    link :=
      if s.outrun f then { s.link with sending := none }
      else { s.link with settled := addSet s.link.settled s.own, sending := none, timer := ending }
    rx := if s.outrun f then s.rx else { s.rx with ownFrame := some (expectedStart s.own, ending) } }

/-- The end of the own transmission; without one there is no such event (log entry 16). -/
def State.ownArrival (s : State) (readBack : List Byte) (stillArriving : Bool) : State :=
  match s.link.sending with
  | none => s
  | some f =>
    let clash := readBack != f.bytes || stillArriving
    let s := if clash then s.logError .clash s.own else s
    let s := (s.endSending f).handOwn f
    if f.header.bye then s.detach .leave true else if s.ctl.linkState.sends then s.countClash clash else s

/-! ### A silent slot (R35) -/

/-- A slot is settled at a time of the own cycle timer. -/
def State.settle (s : State) (k : Station) (t : Int) : State :=
  { s with link := { s.link with settled := addSet s.link.settled k, timer := t } }

/-- No reception settles the slot in this cycle: its arrival has been taken, or it is the own slot, whose one arrival is
the end of the own transmission (R35). -/
def State.slotTaken (s : State) (k : Station) : Bool := memSet s.link.settled k || k == s.own

/-- A slot without a frame start (R35, R140). -/
def State.silentSlot (s : State) (k : Station) : State :=
  if s.ctl.linkState.aligned && !s.slotTaken k then (s.settle k (windowClose k)).failCollection k else s

/-! ### A reception and its checks (R36 to R39, R41) -/

/-- What a reception came to: the frame, or the error kind with the header of a frame that passed FRAME_CHECK. -/
inductive Outcome where
  | heard (f : Frame)
  | failed (kind : LinkError) (h : Option Header)
  deriving DecidableEq, Repr

/-- CLASH by the station number in the header (R38). -/
def clashes (mode : ReceptionMode) (own slot k : Station) : Bool :=
  match mode with
  | .aligned => k != slot
  | .free => k == own

/-- LATE, in aligned reception only (R38). -/
def isLate (mode : ReceptionMode) (offset : Int) : Bool :=
  match mode with
  | .aligned => !withinTolerance offset
  | .free => false

/-- The checks in their order: LENGTH, FRAME_CHECK, CLASH, LATE (R39). -/
def checkFrame (own slot : Station) (r : Reception) : Outcome :=
  if !r.ended || r.secondStart then .failed .length none
  else
    match parseFrame r.bytes with
    | none => .failed .length none
    | some f =>
      if crc16 (r.bytes.take (r.bytes.length - 2)) ≠ f.check then .failed .frameCheck none
      else if clashes r.mode own slot f.header.station then .failed .clash (some f.header)
      else if isLate r.mode (r.start - expectedStart slot) then .failed .late (some f.header)
      else .heard f.frame

/-- The pace station is another station, and the link state is one of aligned reception. -/
def State.paceOther (s : State) (k : Station) : Bool :=
  s.ctl.linkState.aligned && s.ctl.pace == some k && k != s.own

/-- The cycle timer is moved by an offset (R56). -/
def State.align (s : State) (offset : Int) : State :=
  { s with link := { s.link with timer := s.link.timer - offset } }

/-- A sync miss of a station is kept for the tail start (R57). -/
def State.markSyncMiss (s : State) (k : Station) : State :=
  { s with ctl := { s.ctl with syncMissed := addSet s.ctl.syncMissed k } }

/-- What a failed frame says about the pace: a LATE frame inside the sync window aligns, one outside it is a sync miss,
and so is a CLASH whose header names the pace station (R38, R56, R57). -/
def State.failedPace (s : State) (kind : LinkError) (h : Option Header) (offset : Int) : State :=
  match kind, h with
  | .late, some h =>
    if s.paceOther h.station then (if withinSync offset then s.align offset else s.markSyncMiss h.station) else s
  | .clash, some h => if s.paceOther h.station then s.markSyncMiss h.station else s
  | _, _ => s

/-- A failed frame: logged, and silent for presence (R39). -/
def State.failedFrame (s : State) (mode : ReceptionMode) (slot : Station) (kind : LinkError) (h : Option Header)
    (offset : Int) : State :=
  let s := s.logError kind slot
  match mode with
  | .aligned => (s.failedPace kind h offset).failCollection slot
  | .free => s

/-! ### A heard frame (R40, R49, R50, R51) -/

/-- A heard frame brings a LISTEN or COLDSTART station onto the link (R49, R50). -/
def State.paceFrame (s : State) (h : Header) : Bool :=
  !h.bye && h.state.paces
    && (match s.ctl.linkState with
        | .listen => true
        | .coldstart => h.station < s.own
        | .halted | .integrating | .active | .resync => false)

/-- What is left of the own frame at the alignment of R51: one on the link goes on to its end; one that is packed and has
not begun is not sent, since its start is an event that the old timer had still to give (DEDUCED, log entry 43). -/
def State.sendingLeft (s : State) : Option OwnFrame := if expectedStart s.own ≤ s.link.timer then s.link.sending else none

/-- Entry to INTEGRATING with the timer aligned to the frame's sender: a new cycle begins for the station, with its own
slot still to come where the sender has a lower number (R51, R98). -/
def State.integrate (s : State) (h : Header) (len : Nat) : State :=
  { s with
    link :=
      { s.link with
        timer := expectedStart h.station + frameTime len, cycle := h.cycle, settled := addSet 0 h.station
        sending := s.sendingLeft }
    ctl :=
      { s.ctl with
        integrationCount := 0, mismatchReported := false, joinPending := false, fullCycle := false, syncMissed := 0 }
    angle := { s.angle with samples := #v[none, none, none, none] }
    div := { s.div with candidates := #v[none, none, none, none] }
    rx := Receiver.idle }.enterLink .integrating .paceHeard

/-- A dump item by its kind: one that is ignored for a value with no assigned meaning (R190) counts as well, so that its
frame carries a dump item for R140: DESIGN CHOICE, log entry 50. -/
def HeardMsg.isDumpItem (m : HeardMsg) : Bool := m.kind == 0x30 || m.kind == 0x31

/-- The station is kept as heard since the last tail start (R42). -/
def State.markHeard (s : State) (k : Station) : State :=
  { s with link := { s.link with heard := addSet s.link.heard k } }

/-- A frame of the freeze giver without a dump item fails the collection (R140). -/
def State.checkDumpItems (s : State) (f : Frame) : State :=
  if f.msgs.any HeardMsg.isDumpItem then s else s.failCollection f.header.station

/-- A heard frame is handed on: header first, then the messages in order (R40). -/
def State.hearFrame (s : State) (r : Reception) (f : Frame) (offset : Int) : State :=
  let h := f.header
  let s := s.markHeard h.station
  let s := if r.mode = .aligned ∧ s.paceOther h.station = true then s.align offset else s
  let enters := s.paceFrame h
  let s := s.takeHeader h
  let s := if enters then s.integrate h r.bytes.length else s
  (((s.takeSample h).takeCandidate h).checkDumpItems f).takeMsgs h.station f.msgs

/-- The moment at which a reception is over: the end of the frame, or where it was cut off. -/
def receptionEnd (slot : Station) (r : Reception) : Int :=
  if r.ended then r.start + frameTime r.bytes.length
  else
    match r.mode with
    | .aligned => windowClose slot
    | .free => r.start + freeReceptionLimit

/-- A reception is over: in aligned reception its slot is settled. -/
def State.closeReception (s : State) (slot : Station) (r : Reception) : State :=
  match r.mode with
  | .aligned => s.settle slot (receptionEnd slot r)
  | .free => { s with link := { s.link with timer := receptionEnd slot r } }

/-- A reception settled with its outcome. -/
def State.settleReception (s : State) (slot : Station) (r : Reception) : State :=
  let s := s.closeReception slot r
  let offset := r.start - expectedStart slot
  match checkFrame s.own slot r with
  | .heard f => s.hearFrame r f offset
  | .failed kind h => s.failedFrame r.mode slot kind h offset

/-- A reception the receiver looked for (R30, R41): in aligned reception a start outside every window, in the own slot,
or in a slot whose arrival has been taken, is no arrival; in free reception the slot is that of the own timer, 0 in the
tail (R29, R35, R41). -/
def State.receive (s : State) (r : Reception) : State :=
  if s.looksFor r.mode r.start then
    match r.mode with
    | .aligned =>
      match slotOf r.start with
      | some slot => if s.slotTaken slot then s else s.settleReception slot r
      | none => s
    | .free => s.settleReception ((slotOf r.start).getD 0) r
  else s

/-- One arrival. -/
def State.arrive (s : State) (a : Arrival) : State :=
  match a with
  | .own readBack still => s.ownArrival readBack still
  | .silent slot => s.silentSlot slot
  | .received r => s.receive r

/-- FRAME_ARRIVAL: in HALTED the receiver is off (R30). A frame that was being received when the station went to HALTED
is dropped there: DESIGN CHOICE, log entry 39. -/
def execFrameArrival (a : Arrival) (s : State) : Host.Outcome State Fault Refusal :=
  whenRunning s (if s.ctl.linkState.receiving then s.arrive a else s)

end Sys2Proof.Machine
end

