-- ==== Sys2Proof/Machine/Close.lean ====
section
/-! DEFINITION. CYCLE_CLOSE: abandonment (R135), arrival countdown (R124, R125), evacuate (R116 to R120), restore (R121,
R122) with their notices (R123), and the sensor read (R96). -/

namespace Sys2Proof.Machine

/-! ### Abandonment (R135) -/

/-- At the close of a request cycle an ACTIVE PANEL station removes every open entry; the request cycle ends. -/
def State.abandon (s : State) : State :=
  if s.div.requestCycle then
    let s := if s.activePanel then s.removeWhere (fun _ => true) .resync else s
    { s with div := { s.div with requestCycle := false } }
  else s

/-! ### Steps of a re-home move (R117 to R120, R123) -/

/-- The open entry that locks a surface: the one of that surface, with the id of its lock. -/
def State.lockingEntry? (s : State) (sf : Surf) : Option Txn :=
  s.txns.table.find? (fun t => t.surf == sf && some t.id == (s.surface sf).lock)

/-- The transaction of a locked surface is removed REHOMED (R117, R125). -/
def State.unlockRehomed (s : State) (sf : Surf) : State :=
  match s.lockingEntry? sf with
  | some t => s.removeTxn t .rehomed
  | none => s

/-- The return placement after an implicit move (step 3 of R118). -/
def implicitReturn (e : Entry) : Option Placement :=
  if e.implicit then e.ret
  else
    match e.target, e.region with
    | some t, some r => some ⟨t, r⟩
    | _, _ => e.ret

/-- The arriving field after a re-home move to a new owner (R119). -/
def arrivingAfter (cfg : ConfigItems) (e : Entry) (new : Option Station) : Option Nat :=
  if e.owner.map cfg.group ≠ new.map cfg.group then some cfg.arrivalLimit else e.arriving

/-- A surface is taken out of every list and stands parked, with the entry given. -/
def Tables.park (t : Tables) (sf : Surf) (e : Entry) : Tables :=
  (t.removeAll sf).setEntry sf { e with state := .parked, target := none, arriving := none }

/-- A surface is parked, with its SURFACE_PARKED notice. -/
def State.parkSurface (s : State) (sf : Surf) (e : Entry) (c : SurfaceCause) : State :=
  { s with tables := s.tables.park sf e }.notifyAt e.owner (.surfaceParked sf e.appTag e.region e.ret c)

/-- The notices of a move or restore from the entry before to the entry after (R123). -/
def State.moveNotices (s : State) (sf : Surf) (before after : Entry) (p : Placement) (c : SurfaceCause) : State :=
  let gained (s : State) : State :=
    s.notifyAt after.owner (.surfaceGained sf after.appTag p (after.owner.getD s.own) c)
  if before.owner ≠ after.owner then
    let s :=
      s.notifyAt before.owner (.surfaceLost sf after.appTag p (before.owner.getD s.own) c)
    let s := gained s
    match after.arriving with
    | some n => s.notifyAt after.owner (.surfaceArriving sf after.appTag p n)
    | none => s
  else if before.state = .parked then gained s
  else s

/-! ### Evacuate (R116 to R120) -/

/-- The entry after an evacuation move (R118, R119). -/
def evacuatedEntry (cfg : ConfigItems) (e : Entry) (t : Target) : Entry :=
  { e with
    target := some t, region := some (fullRegion t), ret := implicitReturn e, implicit := true
    owner := targetOwner cfg t, arriving := arrivingAfter cfg e (targetOwner cfg t) }

/-- An evacuation move to a fallback target: at the back of its lists (R118). -/
def State.evacuateTo (s : State) (sf : Surf) (t : Target) : State :=
  let e := s.surface sf
  let e' := evacuatedEntry s.port.cfg e t
  { s with
    tables := ((s.tables.removeAll sf).appendBacks sf (destStations s.port.cfg t)).setEntry sf e' }.moveNotices sf e e'
    ⟨t, fullRegion t⟩ .evacuated

/-- A surface of an unusable target: its transaction goes, then it is moved to the first fallback that is usable and
has room, or parked (R117, R120). -/
def State.evacuateSurface (s : State) (t : Target) (sf : Surf) : State :=
  let s := s.unlockRehomed sf
  match (s.ruleOf t).fallbacks.find? (fun f => s.usable f && s.roomFor sf f) with
  | some f => s.evacuateTo sf f
  | none =>
    let e := s.surface sf
    s.parkSurface sf { e with ret := implicitReturn e, implicit := true } .evacuated

/-- The list that gives the order of a target's surfaces (R116). -/
def State.orderList (s : State) : Target → List Surf
  | .panel k => s.tables.lists[k]
  | .span =>
    match spanLow s.port.cfg with
    | some k => s.tables.lists[k]
    | none => []

/-- The PLACED surfaces whose target it is, in order (R116). -/
def State.surfacesOn (s : State) (t : Target) : List Surf :=
  (s.orderList t).filter (fun sf => (s.surface sf).state == .placed && (s.surface sf).target == some t)

/-- One target of the evacuate part. -/
def State.evacuateTarget (s : State) (t : Target) : State :=
  if s.usable t then s else (s.surfacesOn t).foldl (fun s sf => s.evacuateSurface t sf) s

/-- The configured targets in the order of the pass: panel stations in station order, then SPAN. -/
def passTargets (cfg : ConfigItems) : List Target :=
  ((stations.map Target.panel) ++ [Target.span]).filter (targetConfigured cfg)

/-- Step 2 of the pass. -/
def State.evacuate (s : State) : State := (passTargets s.port.cfg).foldl (fun s t => s.evacuateTarget t) s

/-! ### Restore (R121, R122) -/

/-- The return placement of a surface in scope of the restore part (R121). -/
def State.restorable (s : State) (sf : Surf) : Option Placement :=
  let e := s.surface sf
  match e.ret with
  | some p =>
    if e.implicit && e.lock.isNone && s.usable p.target && (s.ruleOf p.target).restore then some p else none
  | none => none

/-- The entry of a surface settled in place (R121). -/
def settledEntry (e : Entry) (p : Placement) : Entry :=
  { e with region := some p.region, implicit := false, ret := none }

/-- The entry of a restored surface (R122). -/
def restoredEntry (cfg : ConfigItems) (e : Entry) (p : Placement) : Entry :=
  { e with
    state := .placed, target := some p.target, region := some p.region, implicit := false, ret := none
    owner := targetOwner cfg p.target, arriving := arrivingAfter cfg e (targetOwner cfg p.target) }

/-- A surface restored to the front of its return target's lists, where they have room (R122). -/
def State.restoreTo (s : State) (sf : Surf) (p : Placement) : State :=
  let e := s.surface sf
  let e' := restoredEntry s.port.cfg e p
  if s.roomFor sf p.target then
    { s with
      tables :=
        ((s.tables.removeAll sf).insertFronts sf (destStations s.port.cfg p.target)).setEntry sf e' }.moveNotices sf e
      e' p .restored
  else s

/-- One surface of the restore part. -/
def State.restoreSurface (s : State) (sf : Surf) : State :=
  match s.restorable sf with
  | some p =>
    if (s.surface sf).target = some p.target then s.setSurface sf (settledEntry (s.surface sf) p)
    else s.restoreTo sf p
  | none => s

/-- Step 3 of the pass, in id order. -/
def State.restore (s : State) : State := surfs.foldl (fun s sf => s.restoreSurface sf) s

/-! ### Arrival countdown (R124, R125) -/

/-- An arriving surface whose count has run out is parked; it keeps its implicit flag and return placement (R125). A
surface restored to another render group arrives with its implicit flag no, which R125 does not foresee and for which
R6 has a park set both: that it keeps them is a DESIGN CHOICE, log entry 38. -/
def State.timeoutSurface (s : State) (sf : Surf) : State :=
  let s := s.unlockRehomed sf
  s.parkSurface sf (s.surface sf) .arrivalTimeout

/-- One surface of the countdown (R124). -/
def State.countSurface (s : State) (sf : Surf) : State :=
  match (s.surface sf).arriving with
  | some n =>
    if n ≤ 1 then s.timeoutSurface sf else s.setSurface sf { s.surface sf with arriving := some (n - 1) }
  | none => s

/-- Step 1 of the pass, in id order. -/
def State.countArrivals (s : State) : State := surfs.foldl (fun s sf => s.countSurface sf) s

/-- The placement table works at a cycle close (R115, R127). -/
def State.passRuns (s : State) : Bool := s.activePanel && !s.div.freezeFlag

/-- The placement table's work at a cycle close. -/
def State.rehomePass (s : State) : State := if s.passRuns then s.countArrivals.evacuate.restore else s

/-- ARRIVAL_TIMEOUT: the arriving surfaces whose count is 0 are parked (R125, log entry 6). -/
def State.timeoutArrivals (s : State) : State :=
  surfs.foldl (fun s sf => if (s.surface sf).arriving = some 0 then s.timeoutSurface sf else s) s

/-- ARRIVAL_TIMEOUT. -/
def execArrivalTimeout (s : State) : Host.Outcome State Fault Refusal :=
  whenRunning s (if s.passRuns then s.timeoutArrivals else s)

/-! ### The sensor read (R96) and CYCLE_CLOSE -/

/-- The read that serves the next cycle start is begun; ANG NONE makes none. -/
def State.beginRead (s : State) : State :=
  { s with angle := { s.angle with read := if s.ctl.straps.angle = .none then .idle else .running } }

/-- CYCLE_CLOSE (R28). -/
def execCycleClose (s : State) : Host.Outcome State Fault Refusal :=
  whenRunning s { s with link := { s.link with timer := cycleCloseTime } }.abandon.rehomePass.beginRead

/-- The sensor's address and the pointer byte of a read (R96). -/
def sensorAddress : BitVec 7 := 0x2C
def sensorPointer : Byte := 0x00

/-- The transaction of a read as it passes on the sensor bus: the station ends it with a stop condition, at once where
the sensor does not acknowledge (R96). -/
def readTransaction (a : SensorAnswer) : List BusStep :=
  [.start, .address sensorAddress false a.ackWrite]
    ++ (if a.ackWrite then
          [.sent sensorPointer a.ackPointer]
            ++ (if a.ackPointer then
                  [.start, .address sensorAddress true a.ackRead]
                    ++ (if a.ackRead then [.taken a.first, .taken a.second] else [])
                else [])
        else [])
    ++ [.stop]

/-- The result of a read: the two data bytes, the most significant first, or FAILED where an acknowledgement is missing
(R96). -/
def readResult (a : SensorAnswer) : SensorResult :=
  if a.ackWrite && a.ackPointer && a.ackRead then .reading (toHalf a.first a.second) else .failed

/-- SENSOR_READ_DONE: the running read completes (R96); none running, there is no such event (log entry 16). -/
def execSensorReadDone (a : SensorAnswer) (s : State) : Host.Outcome State Fault Refusal :=
  whenRunning s
    (if s.angle.read = .running then
      { s with angle := { s.angle with read := .done (readResult a) }, sensorBus := readTransaction a }
    else s)

end Sys2Proof.Machine
end

