-- ==== Sys2Proof/Machine/Evaluate.lean ====
section
/-! DEFINITION. The evaluation of the angle and posture unit at a tail start (R99 to R109). -/

namespace Sys2Proof.Machine

/-! ### Samples of the cycle -/

/-- The valid samples of a kind, in station order. -/
def AngleUnit.valid (u : AngleUnit) (kind : AngleKind) : List (Station × Nat) :=
  stations.filterMap (fun k =>
    match u.samples[k] with
    | some x => if x.kind = kind ∧ x.valid = true then some (k, x.value) else none
    | none => none)

/-- The reference primary: the valid PRIMARY sample of the lowest-numbered station (R100). -/
def AngleUnit.primary (u : AngleUnit) : Option (Station × Nat) := (u.valid .primary).head?

/-- The secondary mean, rounded down (R101). -/
def AngleUnit.mean (u : AngleUnit) : Option Nat :=
  match (u.valid .secondary).map Prod.snd with
  | [] => none
  | v :: vs => some ((v :: vs).sum / (v :: vs).length)

/-- The difference of two angles. -/
def apart (a b : Nat) : Nat := (a - b) + (b - a)

/-! ### Step 1: primary distrust (R100, R101) -/

/-- Two secondaries of different stations agree with each other and stand far from the primary. -/
def pairAgainst (limit p : Nat) (xs : List (Station × Nat)) : Bool :=
  xs.any (fun a =>
    xs.any (fun b => a.1 != b.1 && apart a.2 b.2 ≤ limit && limit < apart a.2 p && limit < apart b.2 p))

/-- The cycle speaks against the primary (R100). -/
def AngleUnit.distrustCycle (u : AngleUnit) (limit : Nat) : Bool :=
  match u.primary with
  | some p => pairAgainst limit p.2 (u.valid .secondary)
  | none => false

/-- The cycle speaks for the primary (R101). -/
def AngleUnit.trustCycle (u : AngleUnit) (limit : Nat) : Bool :=
  match u.primary, u.mean with
  | some p, some m => apart p.2 m ≤ limit
  | _, _ => false

/-- The distrust run counts the cycles that would change the flag; at the disagree count the flag changes. A count that a
dump installed at or above the own disagree count changes the flag at the next cycle that counts: DESIGN CHOICE, log
entry 36. -/
def PostureState.countDistrust (p : PostureState) (hit : Bool) (count : Nat) : PostureState :=
  let n := if hit then p.distrustRun + 1 else 0
  if count ≤ n then { p with distrust := !p.distrust, distrustRun := 0 } else { p with distrustRun := n }

/-- Step 1. -/
def AngleUnit.stepDistrust (u : AngleUnit) (c : ConfigItems) : AngleUnit :=
  let hit := if u.ps.distrust then u.trustCycle c.disagreeLimit else u.distrustCycle c.disagreeLimit
  { u with ps := u.ps.countDistrust hit c.disagreeCount }

/-! ### Step 2: agreed angle and staleness (R102, R103) -/

/-- The agreed value of the cycle (R102). -/
def AngleUnit.agreed (u : AngleUnit) : Option Nat :=
  match u.primary with
  | some p => if u.ps.distrust then u.mean else some p.2
  | none => u.mean

/-- At the stale limit the agreed angle is invalid and the posture UNKNOWN (R103). -/
def State.staleOut (s : State) : State :=
  State.setPosture { s with angle := { s.angle with angleValid := false } } .unknown .stale

/-- A cycle without an agreed value (R103). -/
def State.countStale (s : State) : State :=
  let n := min 10 (s.angle.ps.stale + 1)
  let s := { s with angle := { s.angle with ps := { s.angle.ps with stale := n, candidate := none, dwell := 0 } } }
  if n = 10 then s.staleOut else s

/-! ### Step 3: the disagreement monitor (R104, R105) -/

/-- The run counts after a cycle, both restarted where it is not comparing. -/
def AngleUnit.countRuns (u : AngleUnit) (c : ConfigItems) : AngleUnit :=
  match u.primary, u.mean with
  | some p, some m =>
    if c.disagreeLimit < apart p.2 m then
      { u with disagreeRun := min c.disagreeCount (u.disagreeRun + 1), agreeRun := 0 }
    else { u with agreeRun := min c.disagreeCount (u.agreeRun + 1), disagreeRun := 0 }
  | _, _ => { u with disagreeRun := 0, agreeRun := 0 }

/-- The episode opens or closes when its run count reaches the disagree count (R105). -/
def State.stepEpisode (s : State) : State :=
  let u := s.angle
  match u.primary, u.mean with
  | some p, some m =>
    if !u.episode && s.port.cfg.disagreeCount ≤ u.disagreeRun then
      { s with angle := { u with episode := true } }.notify (.angleDisagree true p.1 p.2 m)
    else if u.episode && s.port.cfg.disagreeCount ≤ u.agreeRun then
      { s with angle := { u with episode := false } }.notify (.angleDisagree false p.1 p.2 m)
    else s
  | _, _ => s

/-- Step 3. -/
def State.stepMonitor (s : State) : State :=
  State.stepEpisode { s with angle := s.angle.countRuns s.port.cfg }

/-! ### Step 4: the posture step (R106 to R108) -/

/-- The band that contains an angle (Table 5-2). -/
def bandOf (c : ConfigItems) (a : Nat) : Band :=
  if a < c.b1 then .closed else if a < c.b2 then .peek else if a < c.b3 then .book else .flat

/-- An angle lies in a band's widened band (Table 5-2). -/
def inWidened (c : ConfigItems) (b : Band) (a : Nat) : Bool :=
  match b with
  | .closed => a < c.b1 + c.hysteresis
  | .peek => c.b1 ≤ a + c.hysteresis && a < c.b2 + c.hysteresis
  | .book => c.b2 ≤ a + c.hysteresis && a < c.b3 + c.hysteresis
  | .flat => c.b3 ≤ a + c.hysteresis

/-- The posture is kept at this angle (R107); UNKNOWN keeps none (R108). -/
def keepsPosture (c : ConfigItems) (p : Posture) (a : Nat) : Bool :=
  match p with
  | .band b => inWidened c b a
  | .unknown => false

/-- A band is counted as candidate. -/
def PostureState.countDwell (p : PostureState) (b : Band) : PostureState :=
  if p.candidate = some b then { p with dwell := p.dwell + 1 } else { p with candidate := some b, dwell := 1 }

/-- The posture becomes the candidate, where the dwell count has reached the dwell setting (R107, R108). -/
def State.dwellComplete (s : State) : State :=
  match s.angle.ps.candidate with
  | some b =>
    if s.port.cfg.dwell ≤ s.angle.ps.dwell then
      State.setPosture { s with angle := { s.angle with ps := { s.angle.ps with candidate := none, dwell := 0 } } }
        (.band b) .band
    else s
  | none => s

/-- Step 4 with the agreed value of the cycle. -/
def State.stepPosture (s : State) (a : Nat) : State :=
  if keepsPosture s.port.cfg s.angle.ps.posture a then
    { s with angle := { s.angle with ps := { s.angle.ps with candidate := none, dwell := 0 } } }
  else
    State.dwellComplete
      { s with angle := { s.angle with ps := s.angle.ps.countDwell (bandOf s.port.cfg a) } }

/-! ### The evaluation (R99) -/

/-- An agreed value is taken (R102). -/
def AngleUnit.takeAgreed (u : AngleUnit) (a : Nat) : AngleUnit :=
  { u with angle := a, angleValid := true, ps := { u.ps with stale := 0 } }

/-- The four steps, at a station in ACTIVE or RESYNC. -/
def State.evaluateSamples (s : State) : State :=
  let s := { s with angle := s.angle.stepDistrust s.port.cfg }
  match s.angle.agreed with
  | some a => (State.stepMonitor { s with angle := s.angle.takeAgreed a }).stepPosture a
  | none => s.countStale.stepMonitor

/-- The sample set is emptied. -/
def State.emptySamples (s : State) : State :=
  { s with angle := { s.angle with samples := #v[none, none, none, none] } }

/-- The unit's work at a tail start: evaluation in ACTIVE and RESYNC, then the sample set is emptied. -/
def State.evaluate (s : State) : State :=
  (if s.ctl.linkState.present then s.evaluateSamples else s).emptySamples

/-- STALE_LIMIT: the stale count stands at 10 (R103, log entry 6). -/
def execStaleLimit (s : State) : Host.Outcome State Fault Refusal :=
  whenRunning s (if s.ctl.linkState.present ∧ s.angle.ps.stale = 10 then s.staleOut else s)

/-- DWELL_COMPLETE: the dwell count stands at the dwell setting (R107, R108, log entry 6). -/
def execDwellComplete (s : State) : Host.Outcome State Fault Refusal :=
  whenRunning s (if s.ctl.linkState.present then s.dwellComplete else s)

end Sys2Proof.Machine
end

