-- ==== Sys2Proof/WellFormed.lean ====
section
/-! DEFINITION. Which commands can come from outside at all: the checks on a command's operands that do not depend on
the state. -/

namespace Sys2Proof

/-- Every work of a tail start, in the order used where the operand is no permitted order. -/
def TailWork.all : List TailWork :=
  [.silence, .losses, .sync, .noPace, .station, .posture, .reference, .compare, .giver, .freezeLimit, .deadlines,
   .offers, .ageing, .blank]

/-- The orders the spec fixes: the losses follow the silence counters (R62); R52, R53, R57 and R58 read the peer view
once the losses are declared; the evaluation runs on the state an entry to ACTIVE leaves (R112); a join is abandoned
without a failed attempt (R143), so before R134 and R138 can fail it; R131 and R134 use the values of R130. That the
losses come first at every station is more than these rules ask, a DESIGN CHOICE each time: before the evaluation at an ACTIVE
station, which R112 leaves open (log entry 37), before `giver` and `freezeLimit` at a requester in RESYNC, whose give-up R142
does not order with a loss (log entry 48), and before the counts of LISTEN and COLDSTART, which R49 and R50 do not order with
one (log entry 51). -/
def TailWork.fixedOrders : List (TailWork × TailWork) :=
  [(.silence, .losses), (.losses, .sync), (.losses, .noPace), (.losses, .station), (.station, .posture),
   (.station, .giver), (.station, .freezeLimit), (.reference, .compare), (.reference, .giver)]

/-- `a` stands before `b` in the order. -/
def TailWork.comesBefore (order : List TailWork) (p : TailWork × TailWork) : Bool :=
  order.idxOf p.1 < order.idxOf p.2

/-- An order of the works of one tail start that the spec permits: each work once, the fixed orders kept. -/
def TailWork.legalOrder (order : List TailWork) : Bool :=
  order.length == TailWork.all.length && TailWork.all.all (fun w => order.contains w)
    && TailWork.fixedOrders.all (TailWork.comesBefore order)

/-- The access kinds with an assigned value (11_formats.md, section 11.4). -/
def assignedAccessKinds : List Byte := [0x01, 0x02, 0x03, 0x04, 0x05, 0x06]

/-- The command kinds with an assigned value (Table 11-4). -/
def assignedCommandKinds : List Byte :=
  [0x01, 0x02, 0x03, 0x10, 0x11, 0x12, 0x13, 0x14, 0x15, 0x16, 0x17, 0x20, 0x21, 0x22, 0x23, 0x24, 0x30, 0x31, 0x32,
   0x33, 0x34]

/-- The argument bytes of a COMMAND access: one length byte counts them (R176). -/
def argsFit (args : List Byte) : Bool := args.length ≤ 255

/-- A command that the outside can give. -/
def Instr.wellFormed : Instr → Bool
  | .tailStart order => TailWork.legalOrder order
  | .unassignedAccessKind k => !assignedAccessKinds.contains k
  | .unassignedCommandKind k args => !assignedCommandKinds.contains k && argsFit args
  | .setConfig args | .start args | .leave args | .create args | .destroy args | .showCmd args | .hide args
  | .raise args | .lower args | .resize args | .confirm args | .move args | .returnCmd args | .cancel args
  | .accept args | .decline args | .relay args | .blank args | .wake args | .clearAdjust args
  | .clearLinkLog args => argsFit args
  | .hardReset _ | .cycleStart _ | .wakeCountExpiry | .packOwnFrame | .frameArrival _ | .lossDeclaration
  | .listenExpired | .coldstartDone | .integrated | .staleLimit | .dwellComplete | .freezeLimit | .deadline
  | .offerExpiry | .relayAged | .blankRefused | .cycleClose | .sensorReadDone _ | .arrivalTimeout | .latch
  | .accessEnd _ _ | .readNotice | .readStatus | .readEntry _ | .readDropLog | .readLinkLog
  | .resetAsserted => true

end Sys2Proof
end

