-- ==== Sys2Proof/Machine/Tail.lean ====
section
/-! DEFINITION. TAIL_START (R28): the blocks' works in the order of its operand, and the rows of the count limits that are
reached there. -/

namespace Sys2Proof.Machine

/-! ### Silence and losses (R42, R62) -/

/-- The silence counter of a station at a tail start. -/
def LinkUnit.silenceAfter (l : LinkUnit) (own k : Station) : Nat :=
  if k = own ∨ memSet l.heard k = true then 0 else min 255 (l.silence[k] + 1)

/-- The silence counters are updated in a receiving state (R42); a new count of heard stations begins. -/
def State.countSilence (s : State) : State :=
  let l := s.link
  let n (k : Station) : Nat := l.silenceAfter s.own k
  { s with
    link :=
      { l with
        silence := if s.ctl.linkState.receiving then #v[n 0, n 1, n 2, n 3] else l.silence
        heard := 0 } }

/-- A station is to be declared lost by silence (R62). -/
def State.silentLoss (s : State) (k : Station) : Bool :=
  s.ctl.linkState.receiving && k != s.own && (s.ctl.peers[k]).isSome && !memSet s.link.heard k
    && 3 ≤ s.link.silence[k]

/-- The losses by silence, in station order where several stations are lost at one tail start: DESIGN CHOICE, log
entry 34. -/
def State.declareLosses (s : State) : State :=
  stations.foldl (fun s k => if s.silentLoss k then s.declareLost k false else s) s

/-- LOSS_DECLARATION (R62 to R64, log entry 6). -/
def execLossDeclaration (s : State) : Host.Outcome State Fault Refusal := whenRunning s s.declareLosses

/-! ### Sync loss and no pace (R57, R58) -/

/-- The sync miss count at a tail start in aligned reception; the second miss in a row loses sync. -/
def State.countSync (s : State) : State :=
  match s.ctl.pace with
  | some p =>
    if s.paceOther p then
      let n := if memSet s.ctl.syncMissed p then s.ctl.syncMissCount + 1 else 0
      let s := { s with ctl := { s.ctl with syncMissCount := n } }
      if 2 ≤ n then (s.logError .syncLost p).detach .syncLost false else s
    else s
  | none => s

/-- INTEGRATING or RESYNC without a pace station detaches. -/
def State.checkPace (s : State) : State :=
  match s.ctl.linkState with
  | .integrating | .resync => if s.ctl.pace.isNone then s.detach .noPace false else s
  | .halted | .listen | .coldstart | .active => s

/-! ### LISTEN and COLDSTART (R49, R50) -/

/-- A station whose listen count has run out enters COLDSTART; its next cycle start carries count 0. -/
def State.listenExpired (s : State) : State :=
  if s.ctl.linkState = .listen ∧ s.ctl.listenCount = 0 then
    { s with
      link := { s.link with cycle := 65535 }
      ctl := { s.ctl with coldstartCount := 0 } }.enterLink .coldstart .listenExpired
  else s

/-- LISTEN_EXPIRED (R49, log entry 6). -/
def execListenExpired (s : State) : Host.Outcome State Fault Refusal := whenRunning s s.listenExpired

/-- A station whose coldstart count has reached 8 enters ACTIVE with empty tables; a frame being received at this tail
start is finished in free reception (R30, R50). -/
def State.coldstartDone (s : State) : State :=
  if s.ctl.linkState = .coldstart ∧ 8 ≤ s.ctl.coldstartCount then
    { s with rx := { s.rx with freeUntil := some tailStartTime } }.becomeActiveEmpty .coldstartDone
  else s

/-- COLDSTART_DONE (R50, log entry 6). -/
def execColdstartDone (s : State) : Host.Outcome State Fault Refusal := whenRunning s s.coldstartDone

/-! ### Integration (R52, R53) -/

/-- The lowest-numbered ACTIVE PANEL station of the peer view. -/
def State.lowestHolder (s : State) : Option Station := stations.find? s.peerTableHolder

/-- The comparison station of the configuration check. -/
def State.comparison (s : State) : Option Station :=
  match s.ctl.pace with
  | some p =>
    (match s.ctl.peers[p] with
      | some q => if q.role = .panel then some p else s.lowestHolder
      | none => s.lowestHolder)
  | none => none

/-- The pace station's peer-view state is COLDSTART. -/
def State.paceColdstart (s : State) : Bool :=
  match s.ctl.pace with
  | some p =>
    (match s.ctl.peers[p] with
      | some q => q.state == .coldstart
      | none => false)
  | none => false

/-- The config digest last heard from a station. -/
def State.peerConfig (s : State) (k : Station) : Option Word :=
  match s.ctl.peers[k] with
  | some q => q.configDigest
  | none => none

/-- The check has passed (R53): ACTIVE with empty tables, or a join by a dump. -/
def State.checkPassed (s : State) : State :=
  if s.otherTableHolder then
    { s with
      ctl := { s.ctl with joinPending := true }
      div := { s.div with dumpState := .asked } }.enqueueControl (.resyncReq .join)
  else s.becomeActiveEmpty .integrated

/-- The check has found different digests (R52). -/
def State.checkFailed (s : State) (k : Station) : State :=
  if s.ctl.mismatchReported then s
  else
    { s with ctl := { s.ctl with mismatchReported := true } }.notify
      (.configMismatch k s.port.configDigest (s.peerConfig k))

/-- The configuration check of a PANEL station (R52). -/
def State.configCheck (s : State) : State :=
  if s.paceColdstart then s
  else
    match s.comparison with
    | some k => if s.peerConfig k = s.port.configDigest then s.checkPassed else s.checkFailed k
    | none => s.checkPassed

/-- A pending join is abandoned (R53, R132). -/
def State.abandonJoin (s : State) : State :=
  { s with
    ctl := { s.ctl with joinPending := false }
    div :=
      { s.div with
        dumpState := .none, attempts := 0, freezeCount := 0, freezeGiver := none } }.becomeActiveEmpty .integrated

/-- What follows at a station whose integration count has reached 2. -/
def State.integrated (s : State) : State :=
  if s.ctl.linkState = .integrating ∧ 2 ≤ s.ctl.integrationCount then
    if !s.isPanel then s.becomeActiveEmpty .integrated
    else if s.ctl.joinPending then (if s.otherTableHolder then s else s.abandonJoin)
    else s.configCheck
  else s

/-- INTEGRATED (R52, R53, log entry 6). -/
def execIntegrated (s : State) : Host.Outcome State Fault Refusal := whenRunning s s.integrated

/-- The integration count rises at the end of a full cycle (R52). -/
def State.countIntegration (s : State) : State :=
  let n := if s.ctl.fullCycle then min 2 (s.ctl.integrationCount + 1) else s.ctl.integrationCount
  { s with ctl := { s.ctl with integrationCount := n } }

/-- The counts of LISTEN, COLDSTART and INTEGRATING, at a station that was in that state when the tail start began
(log entry 20). -/
def State.stationTail (s : State) (began : LinkState) : State :=
  if s.ctl.linkState ≠ began then s
  else
    match began with
    | .listen => State.listenExpired { s with ctl := { s.ctl with listenCount := s.ctl.listenCount - 1 } }
    | .coldstart =>
      State.coldstartDone { s with ctl := { s.ctl with coldstartCount := min 8 (s.ctl.coldstartCount + 1) } }
    | .integrating => s.countIntegration.integrated
    | .halted | .active | .resync => s

/-! ### Reference, comparison and freeze giver (R130, R131, R134) -/

/-- The candidates of the cycle with their digests, in station order. -/
def DivUnit.candidateList (d : DivUnit) : List (Station × Word) :=
  stations.filterMap (fun k => (d.candidates[k]).map (fun w => (k, w)))

/-- How many candidates carry a digest. -/
def groupSize (cs : List (Station × Word)) (w : Word) : Nat := cs.countP (fun c => c.2 == w)

/-- The first candidate of a largest group: with the candidates in station order, the group is the one that contains
the lowest station number among the largest, and the station is its lowest (R130). -/
def leadingCandidate (cs : List (Station × Word)) : Option (Station × Word) :=
  cs.find? (fun c => cs.all (fun d => groupSize cs d.2 ≤ groupSize cs c.2))

/-- The reference digest and the giver candidate of the cycle (R130). -/
def State.takeReference (s : State) : State :=
  if s.tracking then
    let lead := leadingCandidate s.div.candidateList
    { s with div := { s.div with reference := lead.map Prod.snd, giverCandidate := lead.map Prod.fst } }
  else s

/-- A station that leaves ACTIVE for RESYNC ends its part in every transaction, those that were counted each with its
TXN_DONE(RESYNC); its STATE queue is withdrawn (R23, R93, R146). -/
def State.endForResync (s : State) (counted : List (TxnId × Surf)) : State :=
  let s := counted.foldl (fun s c => s.notify (.txnDone c.1 c.2 .resync)) s
  { s with
    txns := { s.txns with ownOpen := 0, offers := [] }
    pool :=
      { s.pool with
        transaction := [], state := [], control := s.pool.control.filter (fun m => !m.isAnswer) } }

/-- Divergence is found: RESYNC, and a request for a copy (R131). -/
def State.diverge (s : State) : State :=
  let s := (s.enterLink .resync .diverged).endForResync s.counted
  { s with div := { s.div with attempts := 0, dumpState := .asked } }.enqueueControl (.resyncReq .diverged)

/-- The own digest of an ACTIVE PANEL station is compared with the reference (R131). -/
def State.compareDigest (s : State) : State :=
  match s.activePanel, s.div.ownDigest, s.div.reference with
  | true, some d, some r => if d = r then s else s.diverge
  | _, _, _ => s

/-- At the tail start of a request cycle the giver candidate becomes the freeze giver; without one each requester in
WAITING fails (R134). -/
def State.takeGiver (s : State) : State :=
  if s.tracking && s.div.requestCycle then
    let s := { s with div := { s.div with freezeGiver := s.div.giverCandidate } }
    if s.div.giverCandidate.isNone ∧ s.div.dumpState = .waiting then s.failAttempt else s
  else s

/-! ### The freeze limit (R138, R142) -/

/-- The station collects records. -/
def DumpState.isCollecting : DumpState → Bool
  | .collecting _ => true
  | .none | .asked | .waiting => false

/-- A freeze whose count is 8 ends; a requester in COLLECTING fails. -/
def State.freezeLimit (s : State) : State :=
  if s.tracking ∧ s.div.freezeCount = 8 then
    if s.div.dumpState.isCollecting then s.endFreeze.failAttempt else s.endFreeze
  else s

/-- FREEZE_LIMIT. -/
def execFreezeLimit (s : State) : Host.Outcome State Fault Refusal := whenRunning s s.freezeLimit

/-! ### Deadlines and offers (R84, R92) -/

/-- The open entries whose deadline has run out are removed TIMEOUT, in table order (R92). -/
def State.expireEntries (s : State) : State :=
  if s.activePanel then s.removeWhere (fun e => e.cyclesLeft == 0) .timeout else s

/-- DEADLINE (R92, log entry 6). -/
def execDeadline (s : State) : Host.Outcome State Fault Refusal := whenRunning s s.expireEntries

/-- The deadline countdown (R92). -/
def State.countDeadlines (s : State) : State :=
  if s.activePanel then
    State.expireEntries
      { s with
        txns := { s.txns with table := s.txns.table.map (fun e => { e with cyclesLeft := e.cyclesLeft - 1 }) } }
  else s

/-- A PENDING offer whose count has run out. -/
def Offer.expired (o : Offer) : Bool := o.state == .pending && o.cyclesLeft == 0

/-- An expired offer: REFUSE(HOST_TIMEOUT), and the record is DECLINED (R84). -/
def State.expireOffer (s : State) (o : Offer) : State :=
  { s with txns := s.txns.setOffer o.id .declined }.enqueueControl (.refuse o.id (some .hostTimeout))

/-- The offers that have expired, in record order where several expire at one tail start: DESIGN CHOICE, log
entry 35. -/
def State.expireOffers (s : State) : State :=
  if s.activePanel then (s.txns.offers.filter Offer.expired).foldl (fun s o => s.expireOffer o) s else s

/-- OFFER_EXPIRY (R84, log entry 6). -/
def execOfferExpiry (s : State) : Host.Outcome State Fault Refusal := whenRunning s s.expireOffers

/-- An offer record at a tail start. -/
def Offer.tick (o : Offer) : Offer := if o.state = .pending then { o with cyclesLeft := o.cyclesLeft - 1 } else o

/-- The offer countdown (R84). -/
def State.countOffers (s : State) : State :=
  if s.activePanel then
    State.expireOffers { s with txns := { s.txns with offers := s.txns.offers.map Offer.tick } }
  else s

/-! ### Relay ageing (R152) -/

/-- The relays at the age limit are dropped RELAY_AGED, in queue order. -/
def State.dropAged (s : State) : State :=
  let limit := s.port.cfg.relayAgeLimit
  let aged := s.pool.relay.filter (fun r => limit ≤ r.age)
  let s := { s with pool := { s.pool with relay := s.pool.relay.filter (fun r => !(limit ≤ r.age)) } }
  aged.foldl (fun s r => s.drop .relay .relayAged 0x40 (some r.dest)) s

/-- RELAY_AGED (R152, log entry 6). -/
def execRelayAged (s : State) : Host.Outcome State Fault Refusal := whenRunning s s.dropAged

/-- The RELAY queue ages. -/
def State.ageRelays (s : State) : State :=
  State.dropAged { s with pool := { s.pool with relay := s.pool.relay.map (fun r => { r with age := r.age + 1 }) } }

/-! ### A pending blank (R165) -/

/-- A pending blank without the dark mark. -/
def State.blankWaits (s : State) : Bool := s.isPanel && s.panel.state == .blankPending && !s.panel.darkMark

/-- A pending blank whose wait count has run out is refused. -/
def State.blankExpired (s : State) : State :=
  if s.blankWaits ∧ s.panel.blankWait = 0 then s.refuseBlank else s

/-- BLANK_REFUSED (R165, log entry 6). -/
def execBlankRefused (s : State) : Host.Outcome State Fault Refusal := whenRunning s s.blankExpired

/-- Idleness is read for a pending blank: the dark mark, or one tail start less to wait (R165). -/
def State.blankTail (s : State) : State :=
  if s.blankWaits then
    if s.panelIdle then { s with panel := { s.panel with darkMark := true } }
    else State.blankExpired { s with panel := { s.panel with blankWait := s.panel.blankWait - 1 } }
  else s

/-! ### TAIL_START -/

/-- One work of a tail start that began in a link state. -/
def State.tailWork (began : LinkState) (s : State) : TailWork → State
  | .silence => s.countSilence
  | .losses => s.declareLosses
  | .sync => s.countSync
  | .noPace => s.checkPace
  | .station => s.stationTail began
  | .posture => s.evaluate
  | .reference => s.takeReference
  | .compare => s.compareDigest
  | .giver => s.takeGiver
  | .freezeLimit => s.freezeLimit
  | .deadlines => s.countDeadlines
  | .offers => s.countOffers
  | .ageing => s.ageRelays
  | .blank => s.blankTail

/-- What was kept for this tail start is let go, and the timer stands at tail start. -/
def State.endTail (s : State) : State :=
  { s with
    link := { s.link with settled := 0, timer := tailStartTime }
    ctl := { s.ctl with syncMissed := 0 }
    div := { s.div with candidates := #v[none, none, none, none] } }

/-- The order of the works: the operand where the spec permits it, else the default (log entry 4). -/
def tailOrder (order : List TailWork) : List TailWork :=
  if TailWork.legalOrder order then order else TailWork.all

/-- The works of a tail start in their order. -/
def State.tailStart (s : State) (order : List TailWork) : State :=
  ((tailOrder order).foldl (State.tailWork s.ctl.linkState) s).endTail

/-- TAIL_START. -/
def execTailStart (order : List TailWork) (s : State) : Host.Outcome State Fault Refusal :=
  whenRunning s (s.tailStart order)

end Sys2Proof.Machine
end

