-- ==== Sys2Proof/Machine/Dispatch.lean ====
section
/-! DEFINITION. The meaning of every command, one arm per constructor. -/

namespace Sys2Proof.Machine

def exec (i : Instr) (s : State) : Host.Outcome State Fault Refusal :=
  match i with
  | .hardReset pins => Sys2Proof.Machine.execHardReset pins s
  | .cycleStart holdFirst => Sys2Proof.Machine.execCycleStart holdFirst s
  | .wakeCountExpiry => Sys2Proof.Machine.execWakeCountExpiry s
  | .packOwnFrame => Sys2Proof.Machine.execPackOwnFrame s
  | .frameArrival a => Sys2Proof.Machine.execFrameArrival a s
  | .tailStart order => Sys2Proof.Machine.execTailStart order s
  | .lossDeclaration => Sys2Proof.Machine.execLossDeclaration s
  | .listenExpired => Sys2Proof.Machine.execListenExpired s
  | .coldstartDone => Sys2Proof.Machine.execColdstartDone s
  | .integrated => Sys2Proof.Machine.execIntegrated s
  | .staleLimit => Sys2Proof.Machine.execStaleLimit s
  | .dwellComplete => Sys2Proof.Machine.execDwellComplete s
  | .freezeLimit => Sys2Proof.Machine.execFreezeLimit s
  | .deadline => Sys2Proof.Machine.execDeadline s
  | .offerExpiry => Sys2Proof.Machine.execOfferExpiry s
  | .relayAged => Sys2Proof.Machine.execRelayAged s
  | .blankRefused => Sys2Proof.Machine.execBlankRefused s
  | .cycleClose => Sys2Proof.Machine.execCycleClose s
  | .sensorReadDone a => Sys2Proof.Machine.execSensorReadDone a s
  | .arrivalTimeout => Sys2Proof.Machine.execArrivalTimeout s
  | .latch => Sys2Proof.Machine.execLatch s
  | .accessEnd request clocked => Sys2Proof.Machine.execAccessEnd request clocked s
  | .unassignedAccessKind kind => Sys2Proof.Machine.execUnassignedAccessKind kind s
  | .setConfig args => Sys2Proof.Machine.execSetConfig args s
  | .start args => Sys2Proof.Machine.execStart args s
  | .leave args => Sys2Proof.Machine.execLeave args s
  | .create args => Sys2Proof.Machine.execCreate args s
  | .destroy args => Sys2Proof.Machine.execDestroy args s
  | .showCmd args => Sys2Proof.Machine.execShow args s
  | .hide args => Sys2Proof.Machine.execHide args s
  | .raise args => Sys2Proof.Machine.execRaise args s
  | .lower args => Sys2Proof.Machine.execLower args s
  | .resize args => Sys2Proof.Machine.execResize args s
  | .confirm args => Sys2Proof.Machine.execConfirm args s
  | .move args => Sys2Proof.Machine.execMove args s
  | .returnCmd args => Sys2Proof.Machine.execReturn args s
  | .cancel args => Sys2Proof.Machine.execCancel args s
  | .accept args => Sys2Proof.Machine.execAccept args s
  | .decline args => Sys2Proof.Machine.execDecline args s
  | .relay args => Sys2Proof.Machine.execRelay args s
  | .blank args => Sys2Proof.Machine.execBlank args s
  | .wake args => Sys2Proof.Machine.execWake args s
  | .clearAdjust args => Sys2Proof.Machine.execClearAdjust args s
  | .clearLinkLog args => Sys2Proof.Machine.execClearLinkLog args s
  | .readNotice => Sys2Proof.Machine.execReadNotice s
  | .readStatus => Sys2Proof.Machine.execReadStatus s
  | .readEntry surface => Sys2Proof.Machine.execReadEntry surface s
  | .readDropLog => Sys2Proof.Machine.execReadDropLog s
  | .readLinkLog => Sys2Proof.Machine.execReadLinkLog s
  | .resetAsserted => Sys2Proof.Machine.execResetAsserted s
  | .unassignedCommandKind kind args => Sys2Proof.Machine.execUnassignedCommandKind kind args s

end Sys2Proof.Machine
end

