-- ==== Sys2Proof/Safety.lean ====
section
/-! DEFINITION. What counts as a safe state and a safe run, in the terms the statements use: the invariants the spec gives
the part, each as a predicate of one state, and the conditions of commands that several statements share. -/

namespace Sys2Proof.Machine

/-- A predicate that every step keeps. -/
def StepKeeps (p : State → Prop) : Prop := ∀ s t : State, p s → step s = .next t → p t

/-- The states a run of any length can pass through. -/
inductive Reaches (s : State) : State → Prop where
  | here : Reaches s s
  | step (t u : State) : Reaches s t → Machine.step t = .next u → Reaches s u

/-- The notice queue holds at most 16 notices (R186). -/
abbrev State.NoticesFit (s : State) : Prop := s.port.notices.length ≤ 16

/-- The configuration block is locked in every link state but HALTED (R47, R180). -/
abbrev State.LockedOnLink (s : State) : Prop := s.port.locked = (s.ctl.linkState != .halted)

/-- The pace station is the lowest-numbered station that is ACTIVE or COLDSTART (R55). -/
abbrev State.PaceIsLowest (s : State) : Prop := s.ctl.pace = paceOf s.own s.ctl.linkState s.ctl.peers

/-- The latch-miss count is at most 3, and the degraded flag is yes exactly where it is 3 (R173 to R175). -/
abbrev State.DegradedAtThree (s : State) : Prop :=
  s.panel.missCount ≤ 3 ∧ s.panel.degraded = (s.panel.missCount == 3)

/-- The freeze flag is set only at a station in ACTIVE or RESYNC, and only while a freeze runs (R132, R136, R138). -/
abbrev State.FreezeFlagMeans (s : State) : Prop :=
  s.div.freezeFlag = true → s.ctl.linkState.present = true ∧ s.div.freezeCount ≠ 0

/-- The three shared classes hold at most 20 buffers together (R149), and the CONTROL queue holds CONTROL messages only
(R145, Table 8-1). -/
abbrev State.SharedFit (s : State) : Prop := s.holdingShared ≤ 20 ∧ ∀ m ∈ s.pool.control, m.isControl = true

/-- Every configuration item lies in its range (R180, Table 10-5), and a span pair names two different stations. -/
def ConfigItems.InRange (c : ConfigItems) : Prop :=
  (∀ k : Station, c.groups[k] ≤ 4) ∧ (∀ p, c.spanPair = some p → p.1 ≠ p.2)
    ∧ (1 ≤ c.b1 ∧ c.b1 ≤ 1850) ∧ (1 ≤ c.b2 ∧ c.b2 ≤ 1850) ∧ (1 ≤ c.b3 ∧ c.b3 ≤ 1850) ∧ c.hysteresis ≤ 100
    ∧ (1 ≤ c.dwell ∧ c.dwell ≤ 15) ∧ (∀ r ∈ c.rules.toList, r.fallbacks.length ≤ 2)
    ∧ (4 ≤ c.answerWindow ∧ c.answerWindow ≤ 63) ∧ (1 ≤ c.offerLimit ∧ c.offerLimit ≤ 61)
    ∧ (2 ≤ c.arrivalLimit ∧ c.arrivalLimit ≤ 255) ∧ (1 ≤ c.weightTransaction ∧ c.weightTransaction ≤ 4)
    ∧ (1 ≤ c.weightState ∧ c.weightState ≤ 4) ∧ (1 ≤ c.weightRelay ∧ c.weightRelay ≤ 4)
    ∧ (1 ≤ c.limitHigh ∧ c.limitHigh ≤ 20) ∧ (1 ≤ c.limitLow ∧ c.limitLow ≤ 20) ∧ c.relayCap ≤ 6
    ∧ (8 ≤ c.relayAgeLimit ∧ c.relayAgeLimit ≤ 255) ∧ c.blankIdleLimit ≤ 63 ∧ (1 ≤ c.wakeTime ∧ c.wakeTime ≤ 15)
    ∧ (20 ≤ c.disagreeLimit ∧ c.disagreeLimit ≤ 400) ∧ (2 ≤ c.disagreeCount ∧ c.disagreeCount ≤ 32)

/-- The configuration block holds items in their ranges (R180). -/
abbrev State.ConfigFits (s : State) : Prop := s.port.cfg.InRange

/-! ### Conditions of commands -/

/-- RESET_N is high: the part runs. -/
abbrev State.Runs (s : State) : Prop := s.resetLow = false

/-- An ACTIVE station of role PANEL: checks 1 and 2 of R21, R75, R83 and R90 pass. -/
abbrev State.HoldsTables (s : State) : Prop := s.ctl.linkState = .active ∧ s.ctl.straps.role = .panel

/-- Checks 3 and 4 of R21 pass: the surface is not FREE and its owner is the own station. -/
abbrev State.Owns (s : State) (sf : Surf) : Prop := (s.surface sf).state ≠ .free ∧ (s.surface sf).owner = some s.own

/-- The pool admits a buffer in a shared class (R149). -/
abbrev State.Admits (s : State) (c : SharedClass) : Prop := s.holdingShared < 20 ∧ s.holding c < s.classLimit c

/-- The seven START checks by number (R181). -/
def State.StartCheck (s : State) : Nat → Prop
  | 1 => s.port.cfg.b1 < s.port.cfg.b2 ∧ s.port.cfg.b2 < s.port.cfg.b3
  | 2 => memSet s.port.cfg.panelSet s.own = true ↔ s.ctl.straps.role = .panel
  | 3 => ∀ k : Station,
      (memSet s.port.cfg.panelSet k = true → 1 ≤ s.port.cfg.groups[k] ∧ s.port.cfg.groups[k] ≤ 4)
      ∧ (memSet s.port.cfg.panelSet k = false → s.port.cfg.groups[k] = 0)
  | 4 => ∀ a b, s.port.cfg.spanPair = some (a, b) →
      memSet s.port.cfg.panelSet a = true ∧ memSet s.port.cfg.panelSet b = true
  | 5 => ∀ r ∈ s.port.cfg.rules.toList, ∀ t ∈ r.fallbacks,
      (∀ k, t = .panel k → memSet s.port.cfg.panelSet k = true) ∧ (t = .span → s.port.cfg.spanPair ≠ none)
  | 6 => s.port.cfg.offerLimit + 2 ≤ s.port.cfg.answerWindow
  | 7 => s.port.cfg.limitLow ≤ s.port.cfg.limitHigh
  | _ => True

/-- Region bytes that give a valid region of a grid of some columns (section 4.4 of 00_scope.md). -/
abbrev BytesInGrid (cols : Nat) (x y w h : Byte) : Prop :=
  1 ≤ w.toNat ∧ 1 ≤ h.toNat ∧ x.toNat + w.toNat ≤ cols ∧ y.toNat + h.toNat ≤ 32

/-- Offset bytes in −63..63 that take one region to another that lies on a grid of some columns (R21, R74, R192). -/
abbrev OffsetInGrid (cols : Nat) (present : Region) (dx dy dw dh : Byte) (r : Region) : Prop :=
  (∀ b ∈ [dx, dy, dw, dh], -63 ≤ b.toInt ∧ b.toInt ≤ 63) ∧ (r.x : Int) = present.x + dx.toInt
    ∧ (r.y : Int) = present.y + dy.toInt ∧ (r.w : Int) = present.w + dw.toInt ∧ (r.h : Int) = present.h + dh.toInt
    ∧ r.inGrid cols = true

/-- Mode and region bytes that give a region on a grid of some columns: ABS the region itself, REL an offset from the
present region, FULL the whole grid (section 4.4 of 00_scope.md, R74, R192). -/
abbrev GivesRegion (cols : Nat) (present : Region) (mode a b c d : Byte) (r : Region) : Prop :=
  (mode = 0x00 ∧ BytesInGrid cols a b c d ∧ r = ⟨a.toNat, b.toNat, c.toNat, d.toNat⟩)
    ∨ (mode = 0x01 ∧ OffsetInGrid cols present a b c d r) ∨ (mode = 0x02 ∧ r = ⟨0, 0, cols, 32⟩)

/-- The reply of a COMMAND is fixed and goes out until CS_N rises (R176, R177). -/
def State.replies (s : State) (command : Byte) (reply : List Byte) : State :=
  { s with port := { s.port with access := some ⟨0x01, some command, reply⟩ } }

/-- A TRANSACTION message goes to the back of its queue. -/
def State.queuesTransaction (s : State) (m : Msg) : State :=
  { s with pool := { s.pool with transaction := s.pool.transaction ++ [m] } }

/-- A STATE message goes to the back of its queue. -/
def State.queuesState (s : State) (m : Msg) : State := { s with pool := { s.pool with state := s.pool.state ++ [m] } }

/-- A CONTROL message goes to the back of its queue. -/
def State.queuesControl (s : State) (m : Msg) : State :=
  { s with pool := { s.pool with control := s.pool.control ++ [m] } }

/-- A header that a 412 sends: a sending state, a sample value in 0..1850. -/
abbrev Header.Sendable (h : Header) : Prop := h.state.sends = true ∧ h.sample.value ≤ 1850

/-- A region whose values fit the fields of a command (R21). -/
abbrev Region.Fits (r : Region) : Prop := r.x ≤ 63 ∧ r.y ≤ 63 ∧ r.w ≤ 63 ∧ r.h ≤ 63

/-- An entry whose fields fit a DUMP record. -/
def Entry.Fits (e : Entry) : Prop :=
  (∀ r, e.region = some r → r.Fits) ∧ (∀ p, e.ret = some p → p.region.Fits)
    ∧ (∀ n, e.arriving = some n → 1 ≤ n ∧ n ≤ 255) ∧ e.lock = none

/-- A message whose fields are in the ranges of Table 11-3. -/
def Msg.Sendable : Msg → Prop
  | .create _ _ r _ => r.Fits
  | .resize _ r => r.Fits
  | .proposeMove _ _ p _ => p.region.Fits
  | .dump d => d.entry.Fits ∧ ∀ k : Station, d.z[k] ≤ 255
  | .dumpEnd n p _ => n ≤ 255 ∧ p.dwell ≤ 255 ∧ p.distrustRun ≤ 255 ∧ p.stale ≤ 255
  | .relay _ p => 1 ≤ p.length ∧ p.length ≤ 24
  | .destroy _ | .setVisible _ _ | .restack _ _ | .arrived _ | .proposeReturn _ _ | .cancel _ | .ready _ | .refuse _ _
  | .resyncReq _ => True

/-! ### Detachment -/

/-- What a detachment leaves, whatever made it: the station is in the new link state with nothing of the link left, and
the panel, the logs, the straps and the configuration values stay (R66, R67). -/
def State.DetachedTo (s t : State) (ls : LinkState) : Prop :=
  t.ctl.linkState = ls ∧ t.ctl.peers = #v[none, none, none, none] ∧ t.ctl.pace = none ∧ t.ctl.clashCount = 0
    ∧ t.ctl.syncMissCount = 0 ∧ t.ctl.joinPending = false ∧ t.ctl.leavePending = false ∧ t.ctl.straps = s.ctl.straps
    ∧ (ls = .listen → t.ctl.listenCount = 4 + s.own.val)
    ∧ t.link.silence = #v[0, 0, 0, 0] ∧ t.link.sending = none ∧ t.link.cycle = s.link.cycle
    ∧ t.tables = Tables.empty ∧ t.txns = ⟨[], [], 0, s.txns.seq⟩
    ∧ t.div = { DivUnit.reset with ownDigest := s.div.ownDigest }
    ∧ t.pool = { s.pool with control := [], transaction := [], state := [], relay := [] }
    ∧ t.angle.samples = #v[none, none, none, none] ∧ t.angle.ps = PostureState.start
    ∧ t.angle.ownSample = s.angle.ownSample ∧ t.panel = s.panel
    ∧ t.port.cfg = s.port.cfg ∧ t.port.configDigest = s.port.configDigest
    ∧ (ls = .halted → t.port.locked = false)

end Sys2Proof.Machine
end

