-- ==== Sys2Proof/Certificates/Slice0/Obligations.lean ====
section
/-! DEFINITION. The statements for the provers. A statement about a result gives the whole next state, or says block by
block what stays, so that it is the command's frame as well. Where an obligation joins several statements of one
subject, each stands as a `Claim` of its own. -/

open Sys2Proof Sys2Proof.Machine

/-! ### The queue and the step -/

/-- A step takes the command at the front of the queue. -/
def Obligations.StepTakesFront : Prop :=
  ∀ (s : State) (c : Instr) (rest : List Instr),
    step { s with pending := c :: rest } = exec c { s with pending := rest }

/-- With no command waiting the part idles (DESIGN CHOICE, log entry 2). -/
def Claim.IdlesOnEmptyQueue : Prop := ∀ s : State, s.pending = [] → step s = .next s

/-- Every command answers a next state in every state, and leaves the queue as it is. -/
def Claim.EveryCommandAnswersNext : Prop :=
  ∀ (c : Instr) (s : State), ∃ t, exec c s = .next t ∧ t.pending = s.pending

/-! ### Reset -/

/-- While RESET_N is low every command but its release has no effect (DEDUCED, log entry 7). -/
def Claim.ResetLowHoldsStill : Prop :=
  ∀ (c : Instr) (s : State), s.resetLow = true → (∀ p, c ≠ .hardReset p) → c ≠ .resetAsserted → exec c s = .next s

/-- The part right after the release of RESET_N, item by item: what the spec gives a reset value has it (R24, R42 to R44,
R46, R68, R72, R73, R97 to R99, R132, R146, R162, R178, R180, R182, R184, R186, Table 3-3), and the model's own values
stand where it gives none: cycle count 65535 (log entry 8), the timer and the marks of the running cycle (log entries 9 and
11), the panel's outputs and the sensor bus (log entry 12), no access under way (log entry 41). -/
def Claim.afterReset (p : Straps) (pending : List Instr) (freeCount : Nat) : State where
  link :=
    { cycle := 65535, timer := 0, silence := #v[0, 0, 0, 0], heard := 0, settled := 0, sending := none, minor := none
      major := none, laterMajors := 0 }
  ctl :=
    { straps := p, linkState := .halted, pace := none, peers := #v[none, none, none, none], listenCount := 0
      coldstartCount := 0, integrationCount := 0, fullCycle := false, mismatchReported := false, joinPending := false
      clashCount := 0, syncMissCount := 0, syncMissed := 0, leavePending := false }
  angle :=
    { read := .idle, ownSample := ⟨p.angle, false, 0⟩, samples := #v[none, none, none, none], angle := 0
      angleValid := false, ps := ⟨.unknown, none, 0, false, 0, 0⟩, disagreeRun := 0, agreeRun := 0, episode := false }
  tables := ⟨Vector.replicate 16 ⟨.free, 0, none, none, none, false, none, false, none, none⟩, #v[[], [], [], []]⟩
  txns := ⟨[], [], 0, 0⟩
  div :=
    { ownDigest := none, reference := none, giverCandidate := none, candidates := #v[none, none, none, none]
      requestCycle := false, nextMark := false, freezeCount := 0, freezeFlag := false, freezeGiver := none
      pendingRequest := false, dumpState := .none, attempts := 0, cursor := .done }
  pool := ⟨[], [], [], [], false, none, none, 0, 0, 0, 0⟩
  panel :=
    { state := .lit, blankWait := 0, darkMark := false, wakeCount := 0, lastList := [], outstanding := none
      missCount := 0, degraded := false, fsync := false, scanOut := [] }
  port :=
    { notices := [], overrun := false, cfg := ConfigItems.default, locked := false, configDigest := none
      adjClipped := false, adjNoChange := false, adjReturnReplaced := false, capture := none, lastAccess := none
      access := none }
  rx := ⟨none, none⟩
  sensorBus := []
  resetLow := false
  freeCount := freeCount
  pending := pending

/-- HARD_RESET where AUTO takes no START: the straps are latched and the whole state is that of the reset values, whatever
it was before; the station is HALTED with the block unlocked and no notice (R46, R179, R180, R182, R184, R186). The queue of
commands and the model's count of free values stay (log entries 2 and 14). -/
def Claim.HardResetValues : Prop :=
  ∀ (p : StrapPins) (s : State), (p.auto = false ∨ p.role = false) →
    exec (.hardReset p) s = .next (Claim.afterReset (Straps.latch p) s.pending s.freeCount)

/-- The straps as they are latched: STN1 the more significant bit of the station number, the levels of ROLE, ANG, RATE and
AUTO as Table 10-4 gives them (R179). -/
def Claim.StrapsLatched : Prop :=
  ∀ (p : StrapPins) (s : State), ∃ t, exec (.hardReset p) s = .next t
    ∧ t.ctl.straps.station.val = p.stn.toNat ∧ t.ctl.straps.auto = p.auto
    ∧ t.ctl.straps.role = (if p.role = true then .sensor else .panel)
    ∧ (p.ang.toNat = 1 → t.ctl.straps.angle = .primary) ∧ (p.ang.toNat = 2 → t.ctl.straps.angle = .secondary)
    ∧ (p.ang.toNat = 0 ∨ p.ang.toNat = 3 → t.ctl.straps.angle = .none)
    ∧ (p.rate.toNat = 0 → t.ctl.straps.rate = .r48) ∧ (p.rate.toNat = 1 → t.ctl.straps.rate = .r60)
    ∧ (p.rate.toNat = 2 → t.ctl.straps.rate = .r90) ∧ (p.rate.toNat = 3 → t.ctl.straps.rate = .r120)

/-- AUTO at a SENSOR station: START is taken with the defaults, which pass outside the default panel station set; station
3 is in LISTEN with listen count 7, locked, with its config digest and LINK_STATE(LISTEN, START); stations 0 to 2 stay
HALTED; everything else is at its reset value (R46, R47, R179, R181, R182). -/
def Claim.AutoStartOfSensor : Prop :=
  ∀ (p : StrapPins) (s : State), p.auto = true → p.role = true →
    let r : State := Claim.afterReset (Straps.latch p) s.pending s.freeCount
    (p.stn = 3 →
      exec (.hardReset p) s = .next
        { r with
          ctl := { r.ctl with linkState := .listen, listenCount := 7 }
          port := { r.port with
            locked := true, configDigest := some (crc32 (sharedItemBytes ConfigItems.default))
            notices := [.linkState .listen .start] } })
    ∧ (p.stn ≠ 3 → exec (.hardReset p) s = .next r)

/-- RESET_ASSERTED stops an own transmission at once, and while RESET_N is low INT_N is high and the link is not driven
(R34, R187). -/
def Claim.ResetAssertedReleasesLink : Prop :=
  ∀ s : State,
    let t : State := { s with resetLow := true, link := { s.link with sending := none } }
    exec .resetAsserted s = .next t ∧ t.intHigh = true ∧ t.linkDriven = false

/-! ### Cycle start -/

/-- CYCLE_START raises the cycle count by one, and forms the own sample and the own digest; it leaves the tables, the
transactions, the queues, the configuration and the link state (R27, R97, R128). -/
def Claim.CycleStartBegins : Prop :=
  ∀ (holdFirst : Bool) (s : State), s.Runs →
    ∃ t, exec (.cycleStart holdFirst) s = .next t
      ∧ t.link = { s.link with cycle := s.link.cycle + 1, timer := 0 }
      ∧ t.ctl = { s.ctl with fullCycle := s.ctl.linkState == .integrating }
      ∧ t.angle = { s.angle with ownSample := t.angle.ownSample, read := .idle }
      ∧ t.tables = s.tables ∧ t.txns = s.txns ∧ t.pool = { s.pool with relayHold := t.pool.relayHold }
      ∧ t.port = { s.port with notices := t.port.notices, overrun := t.port.overrun }
      ∧ t.div.ownDigest = (if s.ctl.straps.role = .panel ∧ s.ctl.linkState = .active
          then some (tableDigestOf s.angle.ps s.tables s.txns.table) else none)
      ∧ t.rx = ⟨none, none⟩
      ∧ (s.ctl.straps.role = .sensor → t.panel = s.panel ∧ t.port = s.port)

/-- The own sample of a cycle start: a reading in 0..1850 at a station with an angle input is valid and carries its
value; every other read gives an invalid sample with value 0 (R97), and one that still runs is abandoned with a stop condition
(R96). -/
def Claim.OwnSampleOfRead : Prop :=
  ∀ (holdFirst : Bool) (s : State), s.Runs →
    ∃ t, exec (.cycleStart holdFirst) s = .next t
      ∧ (∀ v : Half, s.angle.read = .done (.reading v) → s.ctl.straps.angle ≠ .none → v.toNat ≤ 1850 →
          t.angle.ownSample = ⟨s.ctl.straps.angle, true, v.toNat⟩)
      ∧ (∀ v : Half, s.angle.read = .done (.reading v) → (s.ctl.straps.angle = .none ∨ 1850 < v.toNat) →
          t.angle.ownSample = ⟨s.ctl.straps.angle, false, 0⟩)
      ∧ ((s.angle.read = .idle ∨ s.angle.read = .running ∨ s.angle.read = .done .failed) →
          t.angle.ownSample = ⟨s.ctl.straps.angle, false, 0⟩)
      ∧ (s.angle.read = .running → t.sensorBus = [.stop]) ∧ (s.angle.read ≠ .running → t.sensorBus = s.sensorBus)

/-- The own relay hold rises at 12 notices and falls at 4, and is left between (R151); the count is read before or after
the panel's notices, as the operand says (log entry 5). -/
def Obligations.RelayHoldHysteresis : Prop :=
  ∀ (holdFirst : Bool) (s : State), s.Runs →
    ∃ t, exec (.cycleStart holdFirst) s = .next t
      ∧ ∀ n, n = (if holdFirst then s.port.notices.length else t.port.notices.length) →
          (s.pool.relayHold = false → 12 ≤ n → t.pool.relayHold = true)
          ∧ (s.pool.relayHold = true → n ≤ 4 → t.pool.relayHold = false)
          ∧ (s.pool.relayHold = false → n < 12 → t.pool.relayHold = false)
          ∧ (s.pool.relayHold = true → 4 < n → t.pool.relayHold = true)

/-- A freeze begins at the cycle start after a request cycle with a giver, at a tracking station (R136). -/
def Claim.FreezeBegins : Prop :=
  ∀ (holdFirst : Bool) (s : State) (g : Station), s.Runs → s.tracking = true → s.div.freezeCount = 0 →
    s.div.freezeGiver = some g →
    ∃ t, exec (.cycleStart holdFirst) s = .next t
      ∧ t.div.freezeCount = 1 ∧ t.div.freezeFlag = s.ctl.linkState.present ∧ t.div.freezeGiver = some g
      ∧ t.div.pendingRequest = false ∧ t.div.nextMark = false ∧ t.div.requestCycle = s.div.requestCycle
      ∧ (s.div.dumpState = .waiting → t.div.dumpState = .collecting [])
      ∧ (s.div.dumpState = .asked → t.div.dumpState = .asked)
      ∧ (g = s.own → s.ctl.linkState = .active → (∀ sf, (s.surface sf).state = .free) → t.div.cursor = .dumpEnd)
      ∧ (∀ sf, g = s.own → s.ctl.linkState = .active → (s.surface sf).state ≠ .free →
          (∀ sf' < sf, (s.surface sf').state = .free) → t.div.cursor = .next sf)

/-- A freeze is counted on at each later cycle start, and a next-cycle mark makes a request cycle where no freeze begins
(R136, R138). -/
def Claim.FreezeIsCounted : Prop :=
  ∀ (holdFirst : Bool) (s : State), s.Runs → s.tracking = true →
    ∃ t, exec (.cycleStart holdFirst) s = .next t
      ∧ (0 < s.div.freezeCount → s.div.freezeCount < 8 →
          t.div.freezeCount = s.div.freezeCount + 1 ∧ t.div.freezeFlag = s.div.freezeFlag)
      ∧ (s.div.freezeCount = 0 → s.div.freezeGiver = none → s.div.nextMark = true →
          t.div.freezeCount = 0 ∧ t.div.requestCycle = true ∧ t.div.nextMark = false)

/-- A transfer still outstanding at a cycle start is a missed latch: the count rises to at most 3, the panel is degraded at
3, and each of the first three gives LATCH_MISSED (R174, R175). -/
def Obligations.MissedLatchCounts : Prop :=
  ∀ (holdFirst : Bool) (s : State) (o : Outstanding), s.Runs → s.ctl.straps.role = .panel →
    s.panel.state = .lit → s.panel.outstanding = some o →
    ∃ t, exec (.cycleStart holdFirst) s = .next t ∧ t.panel.state = .lit
      ∧ t.panel.outstanding = some ⟨.list, s.link.cycle + 1⟩
      ∧ (s.panel.missCount < 3 → t.panel.missCount = s.panel.missCount + 1
          ∧ t.panel.degraded = (s.panel.degraded || s.panel.missCount + 1 == 3)
          ∧ t.port = (s.notify (.latchMissed o.kind o.cycle (s.panel.missCount + 1)
              (s.panel.degraded || s.panel.missCount + 1 == 3))).port)
      ∧ (3 ≤ s.panel.missCount →
          t.panel.missCount = s.panel.missCount ∧ t.panel.degraded = s.panel.degraded ∧ t.port = s.port)

/-- A pending blank with the dark mark at a cycle start: an idle panel goes DARK with an OFF transfer; one that is not
idle loses the mark, and is LIT again where no wait is left (R166). -/
def Claim.BlankAtCycleStart : Prop :=
  ∀ (holdFirst : Bool) (s : State), s.Runs → s.ctl.straps.role = .panel → s.panel.state = .blankPending →
    s.panel.darkMark = true → s.panel.outstanding = none →
    ∃ t, exec (.cycleStart holdFirst) s = .next t ∧ t.panel.darkMark = false ∧ t.panel.fsync = true
      ∧ (s.panelIdle = true → t.panel.state = .dark ∧ t.panel.outstanding = some ⟨.off, s.link.cycle + 1⟩
          ∧ t.panel.lastList = s.panel.lastList ∧ t.port = (s.notify (.panel .dark .dark)).port)
      ∧ (s.panelIdle = false → s.panel.blankWait = 0 →
          t.panel.state = .lit ∧ t.port = (s.notify (.panel .blankRefused .lit)).port)
      ∧ (s.panelIdle = false → s.panel.blankWait ≠ 0 →
          t.panel.state = .blankPending ∧ t.panel.blankWait = s.panel.blankWait ∧ t.port = s.port)

/-- A WAKING panel counts down at each cycle start, and is LIT with the list sent where the count runs out (R168). -/
def Claim.WakingCountsDown : Prop :=
  ∀ (holdFirst : Bool) (s : State), s.Runs → s.ctl.straps.role = .panel → s.panel.state = .waking →
    s.panel.outstanding = none →
    ∃ t, exec (.cycleStart holdFirst) s = .next t ∧ t.panel.fsync = true
      ∧ (2 ≤ s.panel.wakeCount → t.panel.state = .waking ∧ t.panel.wakeCount = s.panel.wakeCount - 1
          ∧ t.panel.outstanding = none ∧ t.port = s.port)
      ∧ (s.panel.wakeCount = 1 → t.panel.state = .lit ∧ t.panel.wakeCount = 0
          ∧ t.panel.outstanding = some ⟨.list, s.link.cycle + 1⟩ ∧ t.port = (s.notify (.panel .lit .lit)).port)

/-- The list of a cycle start: an ACTIVE station lists the visible surfaces of its own list with their content, front to
back as the list orders them, a station in RESYNC repeats the last list, and every other station sends no entry (R171,
R172). -/
def Claim.ScanoutListOfCycle : Prop :=
  ∀ (holdFirst : Bool) (s : State), s.Runs → s.ctl.straps.role = .panel → s.panel.state = .lit →
    ∃ t, exec (.cycleStart holdFirst) s = .next t ∧ t.panel.state = .lit
      ∧ (s.ctl.linkState = .active → ∀ (sf : Surf) (r : Region), sf ∈ s.tables.lists[s.own] →
          (s.surface sf).target = some (.panel s.own) → (s.surface sf).region = some r → (s.surface sf).visible = true →
          ⟨sf, (s.surface sf).appTag, r, 0, (s.surface sf).arriving.isSome⟩ ∈ t.panel.lastList)
      ∧ (s.ctl.linkState = .active → ∀ e ∈ t.panel.lastList,
          e.surf ∈ s.tables.lists[s.own] ∧ (s.surface e.surf).visible = true)
      ∧ (s.ctl.linkState = .active → (t.panel.lastList.map (·.surf)).Sublist s.tables.lists[s.own])
      ∧ (s.ctl.linkState = .resync → t.panel.lastList = s.panel.lastList)
      ∧ (s.ctl.linkState ≠ .active → s.ctl.linkState ≠ .resync → t.panel.lastList = [])
      ∧ t.panel.scanOut = transferBytes .list s.own (s.link.cycle + 1) t.panel.lastList

/-- The part of a visible SPAN surface that each station of the pair lists: at the lower-numbered station the region cut to
columns 0 to 23, with offset 0; at the other the region cut to columns 24 to 47 and moved 24 to the left, its offset the
columns left of the cut; a cut that holds no cell gives no entry (R171). -/
def Claim.SpanPartsListed : Prop :=
  ∀ (holdFirst : Bool) (a b : Station) (sf : Surf) (r : Region) (s : State), s.Runs → s.ctl.straps.role = .panel →
    s.panel.state = .lit → s.ctl.linkState = .active → s.port.cfg.spanPair = some (a, b) → a ≠ b →
    sf ∈ s.tables.lists[s.own] → (s.surface sf).target = some .span → (s.surface sf).region = some r →
    r.inGrid 48 = true → (s.surface sf).visible = true →
    ∃ t, exec (.cycleStart holdFirst) s = .next t
      ∧ (s.own.val = min a.val b.val →
          (r.x < 24 → ⟨sf, (s.surface sf).appTag, ⟨r.x, r.y, min (r.x + r.w) 24 - r.x, r.h⟩, 0,
            (s.surface sf).arriving.isSome⟩ ∈ t.panel.lastList)
          ∧ (24 ≤ r.x → ∀ e ∈ t.panel.lastList, e.surf ≠ sf))
      ∧ (s.own.val = max a.val b.val →
          (24 < r.x + r.w → ⟨sf, (s.surface sf).appTag, ⟨max r.x 24 - 24, r.y, r.x + r.w - max r.x 24, r.h⟩, 24 - r.x,
            (s.surface sf).arriving.isSome⟩ ∈ t.panel.lastList)
          ∧ (r.x + r.w ≤ 24 → ∀ e ∈ t.panel.lastList, e.surf ≠ sf))

/-- WAKE_COUNT_EXPIRY where the wake count of a WAKING panel has run out: the panel is LIT with PANEL(LIT), and the list is
sent (R168); elsewhere it has no effect (log entry 6). -/
def Claim.WakeCountExpiryLights : Prop :=
  ∀ s : State, s.Runs →
    (s.ctl.straps.role = .panel → s.panel.state = .waking → s.panel.wakeCount = 0 →
      exec .wakeCountExpiry s = .next
        { s.notify (.panel .lit .lit) with
          panel :=
            { s.panel with
              state := .lit, lastList := s.listNow, outstanding := some ⟨.list, s.link.cycle⟩
              scanOut := transferBytes .list s.own s.link.cycle s.listNow } })
    ∧ ((s.ctl.straps.role = .sensor ∨ s.panel.state ≠ .waking ∨ s.panel.wakeCount ≠ 0) →
      exec .wakeCountExpiry s = .next s)

/-! ### The own frame -/

/-- PACK_OWN_FRAME in a sending state, once in a cycle: a frame of at most six messages begins, its header as Table 2-3
gives it; nothing changes but the four queues, the dump cursor, the timer and the frame being sent (R31, R32, R154). -/
def Claim.PackedFrameHeader : Prop :=
  ∀ s : State, s.Runs → s.ctl.linkState.sends = true → s.link.sending = none → memSet s.link.settled s.own = false →
    ∃ (f : OwnFrame) (q : Pool) (c : DumpCursor),
      exec .packOwnFrame s = .next
          { s with
            link := { s.link with timer := slotStart s.own, sending := some f }
            div := { s.div with cursor := c }
            pool := { s.pool with control := q.control, transaction := q.transaction, state := q.state, relay := q.relay } }
      ∧ f.msgs.length ≤ 6 ∧ f.bytes = frameBytes f.header f.msgs
      ∧ f.header.station = s.ctl.straps.station ∧ f.header.role = s.ctl.straps.role
      ∧ f.header.state = s.ctl.linkState ∧ f.header.cycle = s.link.cycle
      ∧ f.header.coldstart = (s.ctl.linkState == .coldstart) ∧ f.header.bye = s.ctl.leavePending
      ∧ f.header.relayHold = s.pool.relayHold ∧ f.header.frozen = s.div.freezeFlag
      ∧ f.header.sample = s.angle.ownSample
      ∧ (s.ctl.straps.role = .panel → f.header.panelState = s.panel.state ∧ f.header.degraded = s.panel.degraded
          ∧ f.header.configDigest = s.port.configDigest
          ∧ (s.ctl.linkState = .active → f.header.tableDigest = s.div.ownDigest)
          ∧ (s.ctl.linkState ≠ .active → f.header.tableDigest = none))
      ∧ (s.ctl.straps.role = .sensor → f.header.panelState = .lit ∧ f.header.degraded = false
          ∧ f.header.configDigest = none ∧ f.header.tableDigest = none)

/-- The messages of a frame under FIXED servicing with no dump item and no relay to pack: CONTROL, then TRANSACTION, then
STATE, each in queue order, up to six; the BYE frame carries none and leaves the queues (R65, R154, R155). -/
def Claim.FixedServicingOrder : Prop :=
  ∀ s : State, s.Runs → s.ctl.linkState.sends = true → s.link.sending = none → memSet s.link.settled s.own = false →
    (s.ctl.leavePending = true →
      ∃ t f, exec .packOwnFrame s = .next t ∧ t.link.sending = some f ∧ f.msgs = [] ∧ t.pool = s.pool)
    ∧ (s.ctl.leavePending = false → s.port.cfg.weighted = false → s.givesDump = false → s.pool.relay = [] →
      ∃ t f, exec .packOwnFrame s = .next t ∧ t.link.sending = some f
        ∧ f.msgs = (s.pool.control ++ s.pool.transaction ++ s.pool.state).take 6
        ∧ t.pool.control ++ t.pool.transaction ++ t.pool.state
            = (s.pool.control ++ s.pool.transaction ++ s.pool.state).drop 6)

/-- The dump cursors from one on: at each surface that is not FREE in id order, then at DUMP_END (R139). -/
def Claim.dumpPath (s : State) : DumpCursor → List DumpCursor
  | .next sf =>
    .next sf :: (surfs.filter (fun x => sf < x && (s.surface x).state != .free)).map .next ++ [.dumpEnd]
  | .dumpEnd => [.dumpEnd]
  | .done => []

/-- The dump item at a cursor: the record of a surface with its z positions and without its lock, or DUMP_END with the
entry count, the posture state and the digest of the present tables (R139). -/
def Claim.dumpItem (s : State) : DumpCursor → List Msg
  | .next sf => [.dump ⟨sf, { s.surface sf with lock := none },
      #v[zPosition s.tables.lists[0] sf, zPosition s.tables.lists[1] sf, zPosition s.tables.lists[2] sf,
        zPosition s.tables.lists[3] sf]⟩]
  | .dumpEnd => [.dumpEnd (surfs.countP (fun x => (s.surface x).state != .free)) s.angle.ps
      (tableDigestOf s.angle.ps s.tables s.txns.table)]
  | .done => []

/-- The messages of a frame that is no BYE frame, in three parts up to six: at the freeze giver up to four dump items from
the cursor on; CONTROL in queue order; then TRANSACTION, STATE and relays whose destination's peer-view relay hold is no,
at most the relay cap of them: each class whole under FIXED, in rounds of the weights under WEIGHTED. What is taken leaves
its queue, what is not stays in its order, a relay to a held destination too (R139, R154 to R157). -/
def Claim.FrameMessagesInThreeParts : Prop :=
  ∀ s : State, s.Runs → s.ctl.linkState.sends = true → s.link.sending = none → memSet s.link.settled s.own = false →
    s.ctl.leavePending = false →
    let gives : Bool := s.div.freezeGiver == some s.own && s.ctl.linkState == .active && s.div.freezeFlag
    let path : List DumpCursor := if gives then Claim.dumpPath s s.div.cursor else []
    let dump : List Msg := (path.take 4).flatMap (Claim.dumpItem s)
    let free (r : RelayMsg) : Bool := !(s.ctl.peers[r.dest]).any (·.relayHold)
    let ts : List Msg := s.pool.transaction
    let ss : List Msg := s.pool.state
    let rs : List Msg :=
      ((s.pool.relay.filter free).take s.port.cfg.relayCap).map (fun r => .relay r.dest r.payload)
    let round (i : Nat) : List Msg :=
      (ts.drop (s.port.cfg.weightTransaction * i)).take s.port.cfg.weightTransaction
        ++ (ss.drop (s.port.cfg.weightState * i)).take s.port.cfg.weightState
        ++ (rs.drop (s.port.cfg.weightRelay * i)).take s.port.cfg.weightRelay
    let shared : List Msg := if s.port.cfg.weighted then (List.range 6).flatMap round else ts ++ ss ++ rs
    ∃ t f, exec .packOwnFrame s = .next t ∧ t.link.sending = some f
      ∧ f.msgs = (dump ++ s.pool.control ++ shared).take 6
      ∧ t.div.cursor = (if gives then (path.drop 4).headD .done else s.div.cursor)
      ∧ t.pool.control = s.pool.control.drop (6 - dump.length)
      ∧ ∃ n m k, f.msgs.Perm
            (dump ++ s.pool.control.take (6 - dump.length) ++ ts.take n ++ ss.take m ++ rs.take k)
          ∧ k ≤ s.port.cfg.relayCap ∧ t.pool.transaction = ts.drop n ∧ t.pool.state = ss.drop m
          ∧ t.pool.relay.filter free = (s.pool.relay.filter free).drop k
          ∧ t.pool.relay.filter (fun r => !free r) = s.pool.relay.filter (fun r => !free r)
          ∧ t.pool.relay.Sublist s.pool.relay

/-! ### Drops and losses -/

/-- The pool after a drop at the own station: the first two drops of the log are kept, the counter of the class rises to at
most 65535, and nothing else changes (R149, R159, R160). -/
def Claim.afterDrop (p : Pool) (d : DropRecord) : Pool :=
  { p with
    dropA := if p.dropA = none then some d else p.dropA
    dropB := if p.dropA ≠ none ∧ p.dropB = none then some d else p.dropB
    dropsTransaction := if d.cls = .transaction then min 65535 (p.dropsTransaction + 1) else p.dropsTransaction
    dropsState := if d.cls = .state then min 65535 (p.dropsState + 1) else p.dropsState
    dropsRelay := if d.cls = .relay then min 65535 (p.dropsRelay + 1) else p.dropsRelay }

/-- What the declaration of losses makes of a state, the lost stations in station order (DESIGN CHOICE, log entry 34): they
are ABSENT, each with its PEER(LOST); the relays to them are gone, each a drop DEST_LOST that is recorded and counted; at an
ACTIVE PANEL station the open entries whose originator or participant is lost are removed, with their lock, offer record and
queued answers, and the host of the own ones gets TXN_DONE(PEER_LOST) with the lost station (R55, R63, R64, R69, R152). -/
def Claim.LossesTaken (lost : Station → Bool) (event : PeerEvent) (s t : State) : Prop :=
  let involves (e : Txn) (k : Station) : Bool := e.id.orig == k || memSet e.participants k
  let gone (e : Txn) : Bool := decide s.HoldsTables && stations.any (fun k => lost k && involves e k)
  let takenBy (k : Station) (e : Txn) : Bool :=
    gone e && involves e k && stations.all (fun j => k ≤ j || !lost j || !involves e j)
  let relays : List RelayMsg := (stations.filter lost).flatMap (fun k => s.pool.relay.filter (fun r => r.dest == k))
  let given : List Notice :=
    (stations.filter lost).flatMap (fun k =>
      .peer k event :: (s.txns.table.filter (fun e => takenBy k e && e.id.orig == s.own)).map
        (fun e => .txnDone e.id e.surf (.peerLost k)))
  (∀ k : Station, t.ctl.peers[k] = if lost k then none else s.ctl.peers[k])
    ∧ ((∃ k, lost k = true) → t.ctl.pace = paceOf s.own s.ctl.linkState t.ctl.peers)
    ∧ t.txns =
        { s.txns with
          table := s.txns.table.filter (fun e => !gone e)
          offers := s.txns.offers.filter (fun o => !s.txns.table.any (fun e => gone e && e.id == o.id))
          ownOpen := s.txns.ownOpen - s.txns.table.countP (fun e => gone e && e.id.orig == s.own) }
    ∧ t.tables.lists = s.tables.lists
    ∧ (∀ sf, t.surface sf =
        if s.txns.table.any (fun e => gone e && e.surf == sf) then { s.surface sf with lock := none } else s.surface sf)
    ∧ t.pool =
        { relays.foldl (fun p r => Claim.afterDrop p ⟨.relay, .destLost, 0x40, some r.dest, s.link.cycle⟩) s.pool with
          relay := s.pool.relay.filter (fun r => !lost r.dest)
          control := s.pool.control.filter (fun m => !s.txns.table.any (fun e => gone e && m.answers e.id)) }
    ∧ (s.port.notices.length + given.length ≤ 16 → t.port = { s.port with notices := s.port.notices ++ given })

/-! ### Arrivals -/

/-- In HALTED the receiver is off: no arrival has an effect (R30). Of a frame whose reception began before HALTED, which
R30 finishes in the mode in which it began, that is the model's choice (DESIGN CHOICE, log entry 39). -/
def Claim.HaltedHearsNothing : Prop :=
  ∀ (a : Arrival) (s : State), s.Runs → s.ctl.linkState = .halted → exec (.frameArrival a) s = .next s

/-- A slot of another station in which no frame starts, at a station that collects no records from it, is settled silent
and nothing else changes; the own slot's arrival is the end of the own transmission, and it is never silent (R35). -/
def Claim.SilentSlotSettles : Prop :=
  ∀ (k : Station) (s : State), s.Runs →
    (s.ctl.linkState.aligned = true → memSet s.link.settled k = false → k ≠ s.own → s.div.collectingFrom k = none →
      exec (.frameArrival (.silent k)) s
        = .next { s with link := { s.link with settled := addSet s.link.settled k, timer := windowClose k } })
    ∧ exec (.frameArrival (.silent s.own)) s = .next s

/-- A frame that fails LENGTH or FRAME_CHECK goes to the MINOR record while the MAJOR record is empty, and is silent for
every other block (R39, R43); a reception cut off, or broken by a second frame start, fails LENGTH (R36). -/
def Claim.FailedFrameLogsMinor : Prop :=
  ∀ (r : Reception) (slot : Station) (s : State), s.Runs → s.modeAt r.start = some .aligned → r.mode = .aligned →
    slotOf r.start = some slot → memSet s.link.settled slot = false → slot ≠ s.own →
    s.div.collectingFrom slot = none →
    (∀ kind h, checkFrame s.own slot r = .failed kind h → (kind = .length ∨ kind = .frameCheck) →
      exec (.frameArrival (.received r)) s = .next
        { s with
          link :=
            { s.link with
              settled := addSet s.link.settled slot, timer := receptionEnd slot r
              minor := if s.link.major = none then some ⟨kind, slot, s.link.cycle⟩ else s.link.minor } })
    ∧ ((r.ended = false ∨ r.secondStart = true) → checkFrame s.own slot r = .failed .length none)

/-- A whole frame with a right frame check in aligned reception fails CLASH where its header names another station than its
slot's, else LATE where its start lies more than 20 µs from the expected one, else it is heard (R38, R39, R40). -/
def Claim.ClashThenLateThenHeard : Prop :=
  ∀ (r : Reception) (own slot : Station) (f : RawFrame), r.mode = .aligned → r.ended = true → r.secondStart = false →
    parseFrame r.bytes = some f → crc16 (r.bytes.take (r.bytes.length - 2)) = f.check →
    let offset : Int := r.start - expectedStart slot
    (f.header.station ≠ slot → checkFrame own slot r = .failed .clash (some f.header))
    ∧ (f.header.station = slot → (offset < -480 ∨ 480 < offset) → checkFrame own slot r = .failed .late (some f.header))
    ∧ (f.header.station = slot → -480 ≤ offset → offset ≤ 480 → checkFrame own slot r = .heard f.frame)

/-- A LATE frame goes to the MINOR record while the MAJOR record is empty. Where it names the pace station, another one
than the own, it aligns the timer within 50 µs of the expected start and is a sync miss outside; nothing else changes (R38,
R43, R56, R57). -/
def Claim.LateFrameAlignsOrMisses : Prop :=
  ∀ (r : Reception) (slot : Station) (h : Header) (s : State), s.Runs → s.modeAt r.start = some .aligned →
    r.mode = .aligned → slotOf r.start = some slot → memSet s.link.settled slot = false → slot ≠ s.own →
    s.div.collectingFrom slot = none → checkFrame s.own slot r = .failed .late (some h) →
    let offset : Int := r.start - expectedStart slot
    let logged : LinkUnit :=
      { s.link with
        settled := addSet s.link.settled slot, timer := receptionEnd slot r
        minor := if s.link.major = none then some ⟨.late, slot, s.link.cycle⟩ else s.link.minor }
    (s.ctl.pace ≠ some h.station → exec (.frameArrival (.received r)) s = .next { s with link := logged })
    ∧ (s.ctl.pace = some h.station → -1200 ≤ offset → offset ≤ 1200 →
      exec (.frameArrival (.received r)) s
        = .next { s with link := { logged with timer := receptionEnd slot r - offset } })
    ∧ (s.ctl.pace = some h.station → (offset < -1200 ∨ 1200 < offset) →
      exec (.frameArrival (.received r)) s = .next
        { s with link := logged, ctl := { s.ctl with syncMissed := addSet s.ctl.syncMissed h.station } })

/-- A CLASH in another station's slot fills an empty MAJOR record, or counts a later major, to at most 255; where its header
names the pace station, another one than the own, it is a sync miss; nothing else changes (R38, R44, R57). -/
def Claim.ClashFrameIsMajor : Prop :=
  ∀ (r : Reception) (slot : Station) (h : Header) (s : State), s.Runs → s.modeAt r.start = some .aligned →
    r.mode = .aligned → slotOf r.start = some slot → memSet s.link.settled slot = false → slot ≠ s.own →
    s.div.collectingFrom slot = none → checkFrame s.own slot r = .failed .clash (some h) →
    let logged : LinkUnit :=
      { s.link with
        settled := addSet s.link.settled slot, timer := receptionEnd slot r
        major := if s.link.major = none then some ⟨.clash, slot, s.link.cycle⟩ else s.link.major
        laterMajors := if s.link.major = none then s.link.laterMajors else min 255 (s.link.laterMajors + 1) }
    ((s.ctl.pace ≠ some h.station ∨ h.station = s.own) →
      exec (.frameArrival (.received r)) s = .next { s with link := logged })
    ∧ (s.ctl.pace = some h.station → h.station ≠ s.own →
      exec (.frameArrival (.received r)) s = .next
        { s with link := logged, ctl := { s.ctl with syncMissed := addSet s.ctl.syncMissed h.station } })

/-- The end of an own transmission that read back as sent, of a frame without a message: the own entry of the peer view
is filled from its header, the buffers are free, and the clash count is 0; its slot is settled (R33, R59, R60, R98). -/
def Claim.OwnFrameSettlesSlot : Prop :=
  ∀ (f : OwnFrame) (s : State), s.Runs → s.ctl.linkState.sends = true → s.link.sending = some f →
    (f.header.state = .coldstart → s.ctl.linkState ≠ .integrating) →
    f.header.bye = false → f.header.station = s.own → f.msgs = [] →
    s.ctl.pace = paceOf s.own s.ctl.linkState s.ctl.peers →
    ∃ t, exec (.frameArrival (.own f.bytes false)) s = .next t
      ∧ t.link = { s.link with
          settled := addSet s.link.settled s.own, sending := none
          timer := expectedStart s.own + frameTime f.bytes.length }
      ∧ t.ctl = { s.ctl with peers := s.ctl.peers.set s.own (some f.header.peer), clashCount := 0 }
      ∧ (f.header.state.present = true →
          t.angle = { s.angle with samples := s.angle.samples.set s.own (some f.header.sample) })
      ∧ (f.header.state.present = false → t.angle = s.angle)
      ∧ t.tables = s.tables ∧ t.txns = s.txns ∧ t.pool = s.pool ∧ t.panel = s.panel ∧ t.port = s.port

/-- The end of an own COLDSTART frame that was on the link when a frame brought INTEGRATING and moved the timer: it is heard
as any own frame, and leaves the moved timer and the own slot of the moved cycle, in which PACK_OWN_FRAME sends a frame with
the state INTEGRATING (R31, R33, R51). That such a frame goes on to its end is DEDUCED (log entry 43). -/
def Claim.OutrunFrameLeavesSlot : Prop :=
  ∀ (f : OwnFrame) (s : State), s.Runs → s.ctl.linkState = .integrating → s.link.sending = some f →
    f.header.state = .coldstart → f.header.bye = false → f.header.station = s.own → f.msgs = [] →
    s.ctl.pace = paceOf s.own s.ctl.linkState s.ctl.peers →
    (∃ t, exec (.frameArrival (.own f.bytes false)) s = .next t ∧ t.link = { s.link with sending := none }
      ∧ t.ctl = { s.ctl with peers := s.ctl.peers.set s.own (some f.header.peer), clashCount := 0 }
      ∧ t.angle = s.angle ∧ t.tables = s.tables ∧ t.txns = s.txns ∧ t.pool = s.pool ∧ t.panel = s.panel
      ∧ t.port = s.port)
    ∧ (memSet s.link.settled s.own = false →
      ∃ t g, exec .packOwnFrame s = .next t ∧ t.link = { s.link with timer := slotStart s.own, sending := some g }
        ∧ g.header.state = .integrating ∧ g.header.station = s.own ∧ g.header.cycle = s.link.cycle)

/-- The end of an own BYE transmission detaches the station to HALTED with cause LEAVE (R65, R66, R67). -/
def Claim.OwnByeDetaches : Prop :=
  ∀ (f : OwnFrame) (s : State), s.Runs → s.ctl.linkState.sends = true → s.link.sending = some f →
    f.header.bye = true → f.msgs = [] →
    ∃ t, exec (.frameArrival (.own f.bytes false)) s = .next t ∧ s.DetachedTo t .halted
      ∧ t.link.minor = s.link.minor ∧ t.link.major = s.link.major
      ∧ (s.ownEntries = [] → s.pool.transaction = [] → s.port.notices.length < 16 →
          t.port.notices = s.port.notices ++ [.linkState .halted .leave])

/-- The second own slot in a row with CLASH goes to the MAJOR record and detaches the station to LISTEN, or to HALTED
where a LEAVE is pending (R44, R59, R66). -/
def Claim.SecondClashDetaches : Prop :=
  ∀ (f : OwnFrame) (readBack : List Byte) (still : Bool) (s : State), s.Runs → s.ctl.linkState.sends = true →
    s.link.sending = some f → f.header.bye = false → f.msgs = [] → (readBack ≠ f.bytes ∨ still = true) →
    s.ctl.clashCount = 1 → s.link.major = none →
    ∃ t, exec (.frameArrival (.own readBack still)) s = .next t
      ∧ s.DetachedTo t (if s.ctl.leavePending then .halted else .listen)
      ∧ t.link.major = some ⟨.clash, s.own, s.link.cycle⟩
      ∧ (s.ownEntries = [] → s.pool.transaction = [] → s.port.notices.length < 16 →
          t.port.notices
            = s.port.notices ++ [.linkState (if s.ctl.leavePending then .halted else .listen) .clash])

/-- Every message a 412 sends reads back from its body, with every operand (Table 11-3). -/
def Obligations.MessageReadsBack : Prop :=
  ∀ m : Msg, m.Sendable →
    m.body.length ≤ 30 ∧ bodyLengthOk m.kindByte m.body = true ∧ decodeMsg m.kindByte m.body = some m

/-- Every frame a 412 sends reads back from its bytes: the header with every field, the messages in order, and a frame
check that agrees (Tables 11-2 and 11-3). -/
def Obligations.FrameReadsBack : Prop :=
  ∀ (h : Header) (ms : List Msg), h.Sendable → ms.length ≤ 6 → (∀ m ∈ ms, m.Sendable) →
    ∃ f, parseFrame (frameBytes h ms) = some f ∧ f.header = h ∧ f.frame = ⟨h, ms.map Msg.heard⟩
      ∧ f.check = crc16 ((frameBytes h ms).take ((frameBytes h ms).length - 2))

/-- A heard frame of another station in aligned reception: the header is taken first, with PEER(JOINED) for an ABSENT
entry, its sample and its digest kept for the tail start; a frame of the pace station, as it was before this frame (log
entry 21), aligns the timer; then the messages are applied in frame order (R40, R56, R60, R61, R98, R130). -/
def Claim.HeardFrameTakesHeaderFirst : Prop :=
  ∀ (r : Reception) (f : Frame) (slot : Station) (s : State), s.Runs → s.modeAt r.start = some .aligned →
    r.mode = .aligned → slotOf r.start = some slot → memSet s.link.settled slot = false →
    checkFrame s.own slot r = .heard f → slot ≠ s.own → f.header.bye = false →
    (s.div.collectingFrom slot = none ∨ ∃ m ∈ f.msgs, m.kind = 0x30 ∨ m.kind = 0x31) →
    ∃ s' : State, exec (.frameArrival (.received r)) s = .next (s'.takeMsgs slot f.msgs)
      ∧ s'.ctl.peers = s.ctl.peers.set slot (some f.header.peer) ∧ s'.ctl.linkState = s.ctl.linkState
      ∧ s'.link = { s.link with
          settled := addSet s.link.settled slot, heard := addSet s.link.heard slot
          timer := if s.ctl.pace = some slot then receptionEnd slot r - (r.start - expectedStart slot)
            else receptionEnd slot r }
      ∧ s'.angle = { s.angle with samples :=
          if f.header.state.present = true then s.angle.samples.set slot (some f.header.sample) else s.angle.samples }
      ∧ s'.div = { s.div with candidates :=
          if f.header.state = .active ∧ f.header.role = .panel ∧ f.header.tableDigest ≠ none
            then s.div.candidates.set slot f.header.tableDigest else s.div.candidates }
      ∧ s'.tables = s.tables ∧ s'.txns = s.txns ∧ s'.pool = s.pool ∧ s'.panel = s.panel
      ∧ s'.port = (if s.ctl.peers[slot] = none then s.notify (.peer slot (.joined f.header.role)) else s).port

/-- A heard frame of the freeze giver without a dump item fails the collection before its messages are taken (R140,
R142). -/
def Claim.FrameWithoutDumpItemFails : Prop :=
  ∀ (r : Reception) (f : Frame) (slot : Station) (rs : List DumpRecord) (s : State), s.Runs →
    s.modeAt r.start = some .aligned → r.mode = .aligned → slotOf r.start = some slot →
    memSet s.link.settled slot = false → checkFrame s.own slot r = .heard f → slot ≠ s.own → f.header.bye = false →
    s.div.dumpState = .collecting rs → s.div.freezeGiver = some slot → s.div.attempts < 2 →
    (∀ m ∈ f.msgs, m.kind ≠ 0x30 ∧ m.kind ≠ 0x31) →
    ∃ s' : State, exec (.frameArrival (.received r)) s = .next (s'.takeMsgs slot f.msgs)
      ∧ s'.div.dumpState = .asked ∧ s'.div.attempts = s.div.attempts + 1
      ∧ s'.pool = { s.pool with
          control := s.pool.control
            ++ [.resyncReq (if s.ctl.linkState = LinkState.resync then .diverged else .join)] }
      ∧ s'.ctl.linkState = s.ctl.linkState ∧ s'.tables = s.tables ∧ s'.txns = s.txns

/-- A heard BYE frame makes its sender ABSENT with PEER(LOST, BYE), the relays to it are dropped, and at an ACTIVE PANEL
station the open entries it is part of are removed; one of an ABSENT station fills no entry and gives no notice (R61, R62,
R63, R64). -/
def Claim.ByeFrameLosesSender : Prop :=
  ∀ (r : Reception) (f : Frame) (slot : Station) (s : State), s.Runs → s.modeAt r.start = some .aligned →
    r.mode = .aligned → slotOf r.start = some slot → memSet s.link.settled slot = false →
    checkFrame s.own slot r = .heard f → slot ≠ s.own → f.header.bye = true → s.div.collectingFrom slot = none →
    let link : LinkUnit :=
      { s.link with
        settled := addSet s.link.settled slot, heard := addSet s.link.heard slot
        timer := if s.ctl.pace = some slot then receptionEnd slot r - (r.start - expectedStart slot)
          else receptionEnd slot r }
    (s.ctl.peers[slot] = none →
      exec (.frameArrival (.received r)) s = .next (State.takeMsgs { s with link := link } slot f.msgs))
    ∧ (s.ctl.peers[slot] ≠ none →
      ∃ s' : State, exec (.frameArrival (.received r)) s = .next (s'.takeMsgs slot f.msgs)
        ∧ s'.ctl.peers = s.ctl.peers.set slot none ∧ s'.ctl.linkState = s.ctl.linkState ∧ s'.link = link
        ∧ s'.ctl.pace = paceOf s.own s.ctl.linkState (s.ctl.peers.set slot none)
        ∧ s'.pool.relay = s.pool.relay.filter (fun m => m.dest != slot)
        ∧ s'.pool.transaction = s.pool.transaction ∧ s'.pool.state = s.pool.state
        ∧ s'.angle = s.angle ∧ s'.div = s.div ∧ s'.panel = s.panel ∧ s'.tables.lists = s.tables.lists
        ∧ (s.txns.table = [] → s'.tables = s.tables ∧ s'.txns = s.txns ∧ s'.pool.control = s.pool.control
          ∧ (s.port.notices.length < 16 →
              s'.port = { s.port with notices := s.port.notices ++ [.peer slot .lostBye] }))
        ∧ ((s.txns.table.map Txn.id).Nodup → Claim.LossesTaken (fun k => k == slot) .lostBye s s'))

/-- A heard frame of an ACTIVE or COLDSTART station makes a LISTEN station INTEGRATING, and a COLDSTART station where the
sender has a lower number; the timer and the cycle count are taken from the frame, and the own slot of the moved cycle is
open (R49, R50, R51). That an own COLDSTART frame on the link goes on, and one that is packed and has not begun is not sent,
is DEDUCED (log entry 43). -/
def Obligations.PaceFrameIntegrates : Prop :=
  ∀ (r : Reception) (f : Frame) (s : State), s.Runs → r.mode = .free → s.sendsAt r.start = false →
    checkFrame s.own ((slotOf r.start).getD 0) r = .heard f → f.header.bye = false → f.header.state.paces = true →
    f.msgs = [] → (s.ctl.linkState = .listen ∨ s.ctl.linkState = .coldstart ∧ f.header.station < s.own) →
    s.div.dumpState = .none →
    ∃ t, exec (.frameArrival (.received r)) s = .next t ∧ t.ctl.linkState = .integrating
      ∧ t.ctl.integrationCount = 0 ∧ t.ctl.joinPending = false
      ∧ t.ctl.peers = s.ctl.peers.set f.header.station (some f.header.peer)
      ∧ t.link.cycle = f.header.cycle ∧ t.link.timer = expectedStart f.header.station + frameTime r.bytes.length
      ∧ f.header.station ≠ s.own ∧ t.link.settled = addSet 0 f.header.station
      ∧ t.link.sending = (if expectedStart s.own ≤ r.start + frameTime r.bytes.length then s.link.sending else none)
      ∧ t.tables = s.tables ∧ t.txns = s.txns ∧ t.pool = s.pool ∧ t.panel = s.panel
      ∧ (s.ctl.peers[f.header.station] = none → s.port.notices.length < 15 →
          t.port.notices = s.port.notices
            ++ [.peer f.header.station (.joined f.header.role), .linkState .integrating .paceHeard])

/-! ### Messages heard -/

/-- CREATE heard: void FROZEN while the freeze is on; else the lowest FREE id becomes PLACED at the front of the creator's
list and the creator's host gets CREATED; without a FREE id it is void TABLE_FULL, without a free place void NO_ROOM (R12,
R13, R15). -/
def Obligations.CreateHeard : Prop :=
  ∀ (k : Station) (tag : Byte) (app : Half) (r : Region) (v : Bool) (s : State), s.HoldsTables →
    memSet s.port.cfg.panelSet k = true → r.inGrid 24 = true →
    (s.div.freezeFlag = true →
      s.takeMsg k (Msg.heard (.create tag app r v)) = s.notifyAt (some k) (.stateVoid 0x01 none tag .frozen))
    ∧ (s.div.freezeFlag = false →
      (∀ sf : Surf, (s.surface sf).state = .free → (∀ sf' < sf, (s.surface sf').state ≠ .free) →
        s.tables.lists[k].length + reservedCount s.txns.table k < 6 →
        s.takeMsg k (Msg.heard (.create tag app r v)) =
          { s with
            tables :=
              { entries := s.tables.entries.set sf
                  ⟨.placed, app, some k, some (.panel k), some r, v, none, false, none, none⟩
                lists := s.tables.lists.set k (sf :: s.tables.lists[k]) } }.notifyAt (some k) (.created tag sf))
      ∧ ((∀ sf : Surf, (s.surface sf).state ≠ .free) →
        s.takeMsg k (Msg.heard (.create tag app r v)) = s.notifyAt (some k) (.stateVoid 0x01 none tag .tableFull))
      ∧ ((∃ sf : Surf, (s.surface sf).state = .free) → 6 ≤ s.tables.lists[k].length + reservedCount s.txns.table k →
        s.takeMsg k (Msg.heard (.create tag app r v)) = s.notifyAt (some k) (.stateVoid 0x01 none tag .noRoom)))

/-- STATE messages heard of their owner with the freeze off: DESTROY frees an unlocked surface and is void LOCKED of a
locked one; SET_VISIBLE and ARRIVED write their one field (R16, R17, R20). -/
def Claim.OwnerMessagesHeard : Prop :=
  ∀ (k : Station) (sf : Surf) (s : State), s.HoldsTables → s.div.freezeFlag = false → (s.surface sf).state ≠ .free →
    (s.surface sf).owner = some k →
    ((s.surface sf).lock = none → ∃ t, s.takeMsg k (Msg.heard (.destroy sf)) = { s with tables := t }
      ∧ t.entries = s.tables.entries.set sf Entry.free
      ∧ ∀ j : Station, t.lists[j] = s.tables.lists[j].filter (· != sf))
    ∧ ((s.surface sf).lock ≠ none →
      s.takeMsg k (Msg.heard (.destroy sf)) = s.notifyAt (some k) (.stateVoid 0x02 (some sf) 0 .locked))
    ∧ (∀ v, s.takeMsg k (Msg.heard (.setVisible sf v)) =
        { s with tables := { s.tables with entries := s.tables.entries.set sf { s.surface sf with visible := v } } })
    ∧ s.takeMsg k (Msg.heard (.arrived sf)) =
        { s with tables := { s.tables with entries := s.tables.entries.set sf { s.surface sf with arriving := none } } }

/-- RESTACK heard of the owner with the freeze off: the surface goes to the front, or to the back, of each list that holds
it, the others keep their order, and no entry changes (R18). RESIZE heard of the owner: the region is the clip to the
surface's present reference grid, and the old one where that holds no cell (R4, R19). -/
def Claim.RestackAndResizeHeard : Prop :=
  ∀ (k : Station) (sf : Surf) (s : State), s.HoldsTables → s.div.freezeFlag = false → (s.surface sf).state ≠ .free →
    (s.surface sf).owner = some k →
    (∀ d : Direction, ∃ t, s.takeMsg k (Msg.heard (.restack sf d)) = { s with tables := t }
      ∧ t.entries = s.tables.entries
      ∧ ∀ j : Station,
          (sf ∉ s.tables.lists[j] → t.lists[j] = s.tables.lists[j])
          ∧ (sf ∈ s.tables.lists[j] → d = .front → t.lists[j] = sf :: s.tables.lists[j].filter (· != sf))
          ∧ (sf ∈ s.tables.lists[j] → d = .back → t.lists[j] = s.tables.lists[j].filter (· != sf) ++ [sf]))
    ∧ (∀ r : Region,
      let cols : Nat := if (s.surface sf).state = .placed ∧ ∃ j, (s.surface sf).target = some (.panel j) then 24 else 48
      (1 ≤ r.w → 1 ≤ r.h → r.x < cols → r.y < 32 →
        s.takeMsg k (Msg.heard (.resize sf r)) =
          { s with
            tables := { s.tables with
              entries := s.tables.entries.set sf
                { s.surface sf with region := some ⟨r.x, r.y, min r.w (cols - r.x), min r.h (32 - r.y)⟩ } } })
      ∧ ((r.w = 0 ∨ r.h = 0 ∨ cols ≤ r.x ∨ 32 ≤ r.y) → s.takeMsg k (Msg.heard (.resize sf r)) = s))

/-- A STATE message that names a surface is void FROZEN while the freeze is on, else void NO_SURFACE of a FREE entry, else
void NOT_OWNER of another station's surface; its sender's host is told and nothing else changes (R12, R13, R14). -/
def Claim.VoidStateMessages : Prop :=
  ∀ (k : Station) (sf : Surf) (m : Msg) (s : State), s.HoldsTables →
    (m = .destroy sf ∨ (∃ v, m = .setVisible sf v) ∨ (∃ d, m = .restack sf d) ∨ (∃ r, m = .resize sf r)
      ∨ m = .arrived sf) →
    (s.div.freezeFlag = true →
      s.takeMsg k (Msg.heard m) = s.notifyAt (some k) (.stateVoid m.kindByte (some sf) 0 .frozen))
    ∧ (s.div.freezeFlag = false → (s.surface sf).state = .free →
      s.takeMsg k (Msg.heard m) = s.notifyAt (some k) (.stateVoid m.kindByte (some sf) 0 .noSurface))
    ∧ (s.div.freezeFlag = false → (s.surface sf).state ≠ .free → (s.surface sf).owner ≠ some k →
      s.takeMsg k (Msg.heard m) = s.notifyAt (some k) (.stateVoid m.kindByte (some sf) 0 .notOwner))

/-- A station that is not ACTIVE, or whose role is SENSOR, applies no STATE message and no PROPOSE, READY, REFUSE or CANCEL,
and gives no notice for it; at a SENSOR station nothing but a RELAY has an effect (R12, R40, R54). -/
def Claim.OnlyTableHoldersApply : Prop :=
  ∀ (k : Station) (m : Msg) (s : State),
    (¬ s.HoldsTables →
      (match m with
        | .relay .. | .resyncReq .. | .dump .. | .dumpEnd .. => False
        | _ => True) →
      s.takeMsg k (Msg.heard m) = s)
    ∧ (s.ctl.straps.role = .sensor → (∀ j payload, m ≠ .relay j payload) → s.takeMsg k (Msg.heard m) = s)

/-- A PROPOSE that passes the checks, of a MOVE with its destination or of a RETURN with the surface's return placement,
opens an entry and locks its surface; an owner that is not ACTIVE counts as having answered. A station that is no
participant does no more; a destination whose panel is not LIT enqueues REFUSE(PANEL_DARK); one of another render group
opens an offer; another participant enqueues READY (R78, R79, R80, R81, R82). -/
def Claim.AcceptedProposeOpens : Prop :=
  ∀ (i : TxnId) (sf : Surf) (p : Placement) (ret : Bool) (kind : TxnKind) (m : Msg) (o : Station) (s : State),
    s.HoldsTables → s.div.freezeFlag = false → (s.surface sf).state ≠ .free → (s.surface sf).lock = none →
    (s.surface sf).owner = some o →
    (kind = .move ∧ m = .proposeMove i sf p ret ∧ placementOk s.port.cfg p = true
      ∨ kind = .ret ∧ m = .proposeReturn i sf ∧ ret = false ∧ (s.surface sf).ret = some p) →
    s.txns.table.length < 8 → s.txns.table.countP (fun e => e.id.orig == i.orig) < 2 →
    (∀ k ∈ destStations s.port.cfg p.target, s.peerActive k = true ∧
      (sf ∈ s.tables.lists[k] ∨ s.tables.lists[k].length + reservedCount s.txns.table k < 6)) →
    let opened : State :=
      { s with
        txns := { s.txns with
          table := s.txns.table ++ [⟨i, kind, sf, (s.surface sf).target, p, ret,
            setOf (o :: destStations s.port.cfg p.target), if s.peerActive o = true then 0 else addSet 0 o,
            s.port.cfg.answerWindow,
            (destStations s.port.cfg p.target).filter (fun k => !(s.tables.lists[k].contains sf))⟩] }
        tables := { s.tables with entries := s.tables.entries.set sf { s.surface sf with lock := some i } } }
    (s.own ≠ o → s.own ∉ destStations s.port.cfg p.target → s.takeMsg i.orig (Msg.heard m) = opened)
    ∧ (s.own ∈ destStations s.port.cfg p.target → s.panel.state ≠ .lit →
      s.takeMsg i.orig (Msg.heard m) = opened.queuesControl (.refuse i (some .panelDark)))
    ∧ ((s.own = o ∧ s.own ∉ destStations s.port.cfg p.target
        ∨ s.own ∈ destStations s.port.cfg p.target ∧ s.panel.state = .lit
          ∧ s.port.cfg.group s.own = s.port.cfg.group o) →
      s.takeMsg i.orig (Msg.heard m) = opened.queuesControl (.ready i))
    ∧ (s.own ∈ destStations s.port.cfg p.target → s.panel.state = .lit →
      s.port.cfg.group s.own ≠ s.port.cfg.group o →
      s.takeMsg i.orig (Msg.heard m) =
        { opened with
          txns := { opened.txns with
            offers := s.txns.offers ++ [(⟨i, s.port.cfg.offerLimit, .pending⟩ : Offer)] } }.notify
          (.handoverOffer i sf (s.surface sf).appTag (some o) (s.surface sf).target p))

/-- A PROPOSE is void by the first check that it fails: FROZEN, NO_SURFACE, LOCKED, NO_RETURN (of a RETURN), TABLE_FULL,
DEST_ABSENT, NO_ROOM. Nothing is opened; the originator's own open count falls and its host gets TXN_DONE(VOID) with the
reason (R78, R79). -/
def Claim.VoidProposes : Prop :=
  ∀ (i : TxnId) (sf : Surf) (m : Msg) (s : State), s.HoldsTables →
    ((∃ p ret, m = .proposeMove i sf p ret ∧ placementOk s.port.cfg p = true) ∨ m = .proposeReturn i sf) →
    let voided (r : Reason) : Prop :=
      s.takeMsg i.orig (Msg.heard m) =
        if i.orig = s.own then
          { s with txns := { s.txns with ownOpen := s.txns.ownOpen - 1 } }.notify (.txnDone i sf (.void r))
        else s
    let dest : Option Placement :=
      match m with
      | .proposeMove _ _ p _ => some p
      | _ => (s.surface sf).ret
    let full : Prop := 8 ≤ s.txns.table.length ∨ 2 ≤ s.txns.table.countP (fun e => e.id.orig == i.orig)
    (s.div.freezeFlag = true → voided .frozen)
    ∧ (s.div.freezeFlag = false →
      ((s.surface sf).state = .free → voided .noSurface)
      ∧ ((s.surface sf).state ≠ .free →
        ((s.surface sf).lock ≠ none → voided .locked)
        ∧ ((s.surface sf).lock = none →
          (dest = none → voided .noReturn)
          ∧ (∀ p, dest = some p →
            (full → voided .tableFull)
            ∧ (¬ full →
              ((∃ k ∈ destStations s.port.cfg p.target, s.peerActive k = false) → voided .destAbsent)
              ∧ ((∀ k ∈ destStations s.port.cfg p.target, s.peerActive k = true) →
                (∃ k ∈ destStations s.port.cfg p.target, sf ∉ s.tables.lists[k]
                  ∧ 6 ≤ s.tables.lists[k].length + reservedCount s.txns.table k) → voided .noRoom))))))

/-- A requester that collects installs the dump its freeze giver ends, and where the digest agrees it is ACTIVE with the
tables and the posture state of the dump, and the freeze is over (R111, R138, R141). -/
def Claim.VerifiedDumpBecomesTables : Prop :=
  ∀ (k : Station) (rs : List DumpRecord) (tb : Tables) (p : PostureState) (s : State), s.tracking = true →
    s.div.dumpState = .collecting rs → s.div.freezeGiver = some k → s.div.freezeCount ≠ 0 →
    rebuildTables s.port.cfg rs = some tb → postureStateOk p = true →
    ∃ t, s.takeMsg k (Msg.heard (.dumpEnd rs.length p (tableDigestOf p tb []))) = t
      ∧ t.ctl.linkState = .active ∧ t.ctl.joinPending = false ∧ t.tables = tb
      ∧ t.txns = { s.txns with table := [], offers := [] } ∧ t.angle.ps = p
      ∧ t.angle.angle = s.angle.angle ∧ t.angle.angleValid = (p.stale != 10)
      ∧ t.div.dumpState = .none ∧ t.div.attempts = 0 ∧ t.div.freezeCount = 0 ∧ t.div.freezeFlag = false
      ∧ t.div.freezeGiver = none ∧ t.link = s.link ∧ t.pool = s.pool ∧ t.panel = s.panel

/-- An installation that fails by the record count, at a joining station before its third attempt: its tables are cleared,
the angle unit takes its starting values with an empty sample set, the requester asks again and the freeze is over; a
station in RESYNC keeps its tables and its angle unit (R99, R138, R141, R142, R143). -/
def Claim.FailedInstallAsksAgain : Prop :=
  ∀ (k : Station) (rs : List DumpRecord) (n : Nat) (p : PostureState) (w : Word) (s : State), s.tracking = true →
    s.div.dumpState = .collecting rs → s.div.freezeGiver = some k → s.div.freezeCount ≠ 0 → n ≠ rs.length →
    postureStateOk p = true → s.div.attempts < 2 →
    let div : DivUnit :=
      { s.div with
        attempts := s.div.attempts + 1, dumpState := .asked, freezeCount := 0, freezeFlag := false
        freezeGiver := none, pendingRequest := false, nextMark := s.div.nextMark || s.div.pendingRequest }
    (s.ctl.linkState = .integrating →
      s.takeMsg k (Msg.heard (.dumpEnd n p w)) =
        { s with
          div := div, tables := Tables.empty, txns := { s.txns with table := [], offers := [] }
          angle :=
            { s.angle with
              samples := #v[none, none, none, none], angle := 0, angleValid := false, ps := PostureState.start
              disagreeRun := 0, agreeRun := 0, episode := false } }.queuesControl (.resyncReq .join))
    ∧ (s.ctl.linkState = .resync →
      s.takeMsg k (Msg.heard (.dumpEnd n p w)) = { s with div := div }.queuesControl (.resyncReq .diverged))

/-- The READY of the last participant commits: the surface stands in the destination lists alone, at their front, with the
destination's owner, not arriving and unlocked; its return placement is none without the return flag, and with it the
placement before, or as it was where the surface was PARKED; the entry and its offer record are gone (R86, R87, R88). -/
def Claim.LastReadyMovesSurface : Prop :=
  ∀ (t : Txn) (k : Station) (s : State), s.HoldsTables → s.entry? t.id = some t →
    (s.txns.table.map Txn.id).Nodup → s.port.cfg.InRange → memSet t.participants k = true →
    addSet t.answered k = t.participants →
    ∃ u, s.takeMsg k (Msg.heard (.ready t.id)) = u
      ∧ (u.surface t.surf).state = .placed ∧ (u.surface t.surf).target = some t.dest.target
      ∧ (u.surface t.surf).region = some t.dest.region ∧ (u.surface t.surf).lock = none
      ∧ (u.surface t.surf).arriving = none ∧ (u.surface t.surf).implicit = false
      ∧ (u.surface t.surf).owner = (destStations s.port.cfg t.dest.target).head?
      ∧ (t.retFlag = false → (u.surface t.surf).ret = none)
      ∧ (∀ tg r, t.retFlag = true → (s.surface t.surf).target = some tg → (s.surface t.surf).region = some r →
          (u.surface t.surf).ret = some ⟨tg, r⟩)
      ∧ (t.retFlag = true → (s.surface t.surf).target = none → (u.surface t.surf).ret = (s.surface t.surf).ret)
      ∧ (u.surface t.surf).appTag = (s.surface t.surf).appTag
      ∧ (u.surface t.surf).visible = (s.surface t.surf).visible
      ∧ (∀ sf, sf ≠ t.surf → u.surface sf = s.surface sf)
      ∧ (∀ j ∈ destStations s.port.cfg t.dest.target,
          u.tables.lists[j] = t.surf :: s.tables.lists[j].filter (· != t.surf))
      ∧ (∀ j : Station, j ∉ destStations s.port.cfg t.dest.target →
          u.tables.lists[j] = s.tables.lists[j].filter (· != t.surf))
      ∧ u.txns.table = s.txns.table.filter (fun e => e.id != t.id)
      ∧ u.txns.offers = s.txns.offers.filter (fun o => o.id != t.id)
      ∧ u.txns.ownOpen = (if t.id.orig = s.own then s.txns.ownOpen - 1 else s.txns.ownOpen)
      ∧ u.pool = { s.pool with control := s.pool.control.filter (fun m => !m.answers t.id) }
      ∧ u.link = s.link ∧ u.ctl = s.ctl ∧ u.panel = s.panel ∧ u.div = s.div ∧ u.angle = s.angle

/-- The notices of a commit, in this order, each at its station: TXN_DONE(COMMITTED) at the originator, SURFACE_LOST at the
owner before where the owner changes, SURFACE_GAINED at the owner after (R88). -/
def Claim.CommitGivesNotices : Prop :=
  ∀ (t : Txn) (k : Station) (s : State), s.HoldsTables → s.entry? t.id = some t →
    memSet t.participants k = true → addSet t.answered k = t.participants →
    let old : Option Station := (s.surface t.surf).owner
    let new : Option Station := (destStations s.port.cfg t.dest.target).head?
    let tag : Half := (s.surface t.surf).appTag
    let given : List Notice :=
      (if t.id.orig = s.own then [.txnDone t.id t.surf .committed] else [])
        ++ (if old ≠ new ∧ old = some s.own then [.surfaceLost t.surf tag t.dest s.own (.committed t.id)] else [])
        ++ (if new = some s.own then [.surfaceGained t.surf tag t.dest s.own (.committed t.id)] else [])
    s.port.notices.length + given.length ≤ 16 →
    (s.takeMsg k (Msg.heard (.ready t.id))).port = { s.port with notices := s.port.notices ++ given }

/-- A REFUSE of a participant and a CANCEL of the originator remove the open entry: the lock, the reservations, the offer
record and the queued answers go, and the originator's host gets TXN_DONE; from another sender, and where no open entry
has the id, both are ignored (R69, R89, R91). -/
def Obligations.RefuseAndCancelRemove : Prop :=
  ∀ (t : Txn) (k : Station) (reason : Option Reason) (s : State), s.HoldsTables → s.entry? t.id = some t →
    (s.txns.table.map Txn.id).Nodup →
    let removed : State :=
      { s with
        txns := { s.txns with
          table := s.txns.table.filter (fun e => e.id != t.id)
          offers := s.txns.offers.filter (fun o => o.id != t.id) }
        tables := { s.tables with
          entries := s.tables.entries.set t.surf { s.surface t.surf with lock := none } }
        pool := { s.pool with control := s.pool.control.filter (fun m => !m.answers t.id) } }
    let ended (o : TxnOutcome) : State :=
      if t.id.orig = s.own then
        { removed with txns := { removed.txns with ownOpen := s.txns.ownOpen - 1 } }.notify (.txnDone t.id t.surf o)
      else removed
    (memSet t.participants k = true →
      s.takeMsg k (Msg.heard (.refuse t.id reason)) = ended (.refused k reason))
    ∧ (memSet t.participants k = false → s.takeMsg k (Msg.heard (.refuse t.id reason)) = s)
    ∧ s.takeMsg t.id.orig (Msg.heard (.cancel t.id)) = ended .cancelled
    ∧ (k ≠ t.id.orig → s.takeMsg k (Msg.heard (.cancel t.id)) = s)
    ∧ (∀ i, s.entry? i = none →
      s.takeMsg k (Msg.heard (.refuse i reason)) = s ∧ s.takeMsg k (Msg.heard (.cancel i)) = s)

/-- RESYNC_REQ heard by a tracking station makes a request cycle, or sets the pending-request flag while a freeze runs; a
requester that hears its own request waits (R133). DUMP_END heard ends a freeze at a station that collects nothing, a
requester in ASKED or WAITING with it, and is ignored with no freeze running (R138, R142). -/
def Claim.DivergenceMessagesHeard : Prop :=
  ∀ (k : Station) (reason : ReqReason) (n : Nat) (p : PostureState) (w : Word) (s : State), s.tracking = true →
    postureStateOk p = true →
    (∃ t, s.takeMsg k (Msg.heard (.resyncReq reason)) = { s with div := t }
      ∧ (s.div.freezeCount = 0 → t.requestCycle = true ∧ t.pendingRequest = s.div.pendingRequest)
      ∧ (s.div.freezeCount ≠ 0 → t.pendingRequest = true ∧ t.requestCycle = s.div.requestCycle)
      ∧ t.dumpState = (if k = s.own ∧ s.div.dumpState = .asked then .waiting else s.div.dumpState))
    ∧ (s.div.freezeCount = 0 → s.takeMsg k (Msg.heard (.dumpEnd n p w)) = s)
    ∧ (s.div.freezeCount ≠ 0 → s.div.dumpState.isCollecting = false →
      s.takeMsg k (Msg.heard (.dumpEnd n p w)) =
        { s with
          div := { s.div with
            freezeCount := 0, freezeFlag := false, freezeGiver := none, pendingRequest := false
            nextMark := s.div.nextMark || s.div.pendingRequest } })

/-- A silent slot of the freeze giver fails a collection, and before its third attempt the requester asks again (R140,
R142). -/
def Claim.CollectionFailsOnSilence : Prop :=
  ∀ (k : Station) (rs : List DumpRecord) (s : State), s.Runs → s.ctl.linkState.aligned = true →
    memSet s.link.settled k = false → k ≠ s.own → s.div.dumpState = .collecting rs →
    s.div.freezeGiver = some k → s.div.attempts < 2 →
    exec (.frameArrival (.silent k)) s = .next
      ({ s with
          link := { s.link with settled := addSet s.link.settled k, timer := windowClose k }
          div := { s.div with attempts := s.div.attempts + 1, dumpState := .asked } }.queuesControl
        (.resyncReq (if s.ctl.linkState = LinkState.resync then .diverged else .join)))

/-- The third failed attempt of a requester gives up: it detaches to HALTED with cause GIVE_UP, without a TXN_DONE for a
transaction that RESYNC has ended (R66, R67, R73, R142). -/
def Claim.ThirdFailedAttemptGivesUp : Prop :=
  ∀ (k : Station) (rs : List DumpRecord) (s : State), s.Runs → s.ctl.linkState.aligned = true →
    memSet s.link.settled k = false → k ≠ s.own → s.div.dumpState = .collecting rs →
    s.div.freezeGiver = some k → s.div.attempts = 2 →
    ∃ t, exec (.frameArrival (.silent k)) s = .next t ∧ s.DetachedTo t .halted
      ∧ t.link.minor = s.link.minor ∧ t.link.major = s.link.major ∧ t.link.laterMajors = s.link.laterMajors
      ∧ (s.ctl.linkState = .resync ∨ s.counted = [] → s.port.notices.length < 16 →
          t.port = { s.port with
            locked := false, notices := s.port.notices ++ [.linkState .halted .giveUp] })

/-- A RELAY heard at its destination becomes RELAY_IN where the notice queue has room, else a drop INBOUND_FULL without the
overrun flag; at every other station it is ignored (R153). -/
def Obligations.RelayHeard : Prop :=
  ∀ (k d : Station) (payload : List Byte) (s : State), s.ctl.linkState ≠ .halted →
    (d ≠ s.own → s.takeMsg k (Msg.heard (.relay d payload)) = s)
    ∧ (d = s.own → s.port.notices.length < 16 →
      s.takeMsg k (Msg.heard (.relay d payload)) =
        { s with port := { s.port with notices := s.port.notices ++ [.relayIn k payload] } })
    ∧ (d = s.own → 16 ≤ s.port.notices.length →
      ∃ t, s.takeMsg k (Msg.heard (.relay d payload)) = { s with pool := t }
        ∧ t.dropsInbound = min 65535 (s.pool.dropsInbound + 1)
        ∧ (s.pool.dropA = none → t.dropA = some ⟨.relay, .inboundFull, 0x40, some k, s.link.cycle⟩
            ∧ t.dropB = s.pool.dropB)
        ∧ (s.pool.dropA ≠ none → t.dropA = s.pool.dropA))

/-! ### Tail start -/

/-- No loss by silence falls due at the next tail start: of every other station that is not ABSENT a frame was heard since
the last one, or its silence count is at most 1 (R42, R62). -/
abbrev Claim.NoLossDue (s : State) : Prop :=
  ∀ k : Station, k ≠ s.own → s.ctl.peers[k] ≠ none → memSet s.link.heard k = true ∨ s.link.silence[k] ≤ 1

/-- The silence counters at a tail start: 0 for a station heard since the last one and for the own station, else one more,
to at most 255, whatever the order of the works (R42). -/
def Claim.TailCountsSilence : Prop :=
  ∀ (order : List TailWork) (s : State), s.Runs →
    (s.ctl.linkState = .listen
      ∨ s.ctl.linkState = .active ∧ s.ctl.straps.role = .sensor ∧ s.ctl.pace = some s.own ∧ s.PaceIsLowest) →
    ∃ t, exec (.tailStart order) s = .next t ∧ t.link.heard = 0 ∧ t.link.settled = 0
      ∧ ∀ k : Station, t.link.silence[k]
          = if k = s.own ∨ memSet s.link.heard k = true then 0 else min 255 (s.link.silence[k] + 1)

/-- The listen count falls at each tail start in LISTEN, and the station enters COLDSTART where it reaches 0, whatever the
order of the works; the next cycle start then carries count 0 (R49, R50). -/
def Claim.ListenCountsDown : Prop :=
  ∀ (order : List TailWork) (s : State), s.Runs → s.ctl.linkState = .listen →
    ∃ t, exec (.tailStart order) s = .next t ∧ t.tables = s.tables ∧ t.port.cfg = s.port.cfg
      ∧ (2 ≤ s.ctl.listenCount →
          t.ctl.linkState = .listen ∧ t.ctl.listenCount = s.ctl.listenCount - 1 ∧ t.link.cycle = s.link.cycle)
      ∧ (s.ctl.listenCount = 1 →
          t.ctl.linkState = .coldstart ∧ t.ctl.coldstartCount = 0 ∧ t.link.cycle + 1 = 0)

/-- The coldstart count rises at each tail start in COLDSTART, whatever the order of the works; where it reaches 8 the station
is ACTIVE with empty tables and the starting posture, and a cycle without a sample counts as its first stale one (R24, R50,
R99, R103). -/
def Claim.ColdstartCountsUp : Prop :=
  ∀ (order : List TailWork) (s : State), s.Runs → s.ctl.linkState = .coldstart →
    (s.ctl.coldstartCount < 7 →
      ∃ t, exec (.tailStart order) s = .next t ∧ t.ctl.linkState = .coldstart
        ∧ t.ctl.coldstartCount = s.ctl.coldstartCount + 1 ∧ t.tables = s.tables ∧ t.txns = s.txns
        ∧ t.link.cycle = s.link.cycle ∧ t.port.cfg = s.port.cfg)
    ∧ (s.ctl.coldstartCount = 7 → s.ConfigFits → s.ctl.syncMissed = 0 → s.div.ownDigest = none →
      s.div.dumpState = .none →
      ∃ t, exec (.tailStart order) s = .next t ∧ t.ctl.linkState = .active ∧ t.ctl.coldstartCount = 8
        ∧ t.tables = Tables.empty ∧ t.txns = { s.txns with table := [], offers := [] }
        ∧ t.link.cycle = s.link.cycle ∧ t.port.cfg = s.port.cfg
        ∧ (s.angle.samples = #v[none, none, none, none] →
            t.angle.ps = { PostureState.start with stale := 1 } ∧ t.angle.angleValid = false)
        ∧ (Claim.NoLossDue s → s.pool.relay = [] → s.angle.samples = #v[none, none, none, none] →
            s.panel.state ≠ .blankPending →
            t.port = (s.notify (.linkState .active .coldstartDone)).port))

/-- The integration count rises at the tail start of a cycle whose cycle start was taken in INTEGRATING, and at no other,
whatever the order of the works. Where it reaches 2 a SENSOR station is ACTIVE, and a PANEL station makes its check at this
same tail start: with an ACTIVE PANEL pace it asks for a copy on equal digests and gives CONFIG_MISMATCH on different ones,
and with a COLDSTART pace it waits (R52, R53). That the requester is ASKED from the enqueue of its JOIN on is DEDUCED (log
entry 29). -/
def Claim.IntegrationCountsUp : Prop :=
  ∀ (order : List TailWork) (p : Station) (s : State), s.Runs → s.ctl.linkState = .integrating →
    s.ctl.pace = some p → p ≠ s.own → memSet s.ctl.syncMissed p = false → Claim.NoLossDue s →
    s.div.requestCycle = false → s.div.freezeCount ≠ 8 →
    (s.ctl.fullCycle = false → s.ctl.integrationCount < 2 →
      ∃ t, exec (.tailStart order) s = .next t ∧ t.ctl = { s.ctl with syncMissCount := 0, syncMissed := 0 })
    ∧ (s.ctl.fullCycle = true → s.ctl.integrationCount = 0 →
      ∃ t, exec (.tailStart order) s = .next t
        ∧ t.ctl = { s.ctl with integrationCount := 1, syncMissCount := 0, syncMissed := 0 })
    ∧ (s.ctl.fullCycle = true → s.ctl.integrationCount = 1 → s.ctl.straps.role = .sensor →
      ∃ t, exec (.tailStart order) s = .next t ∧ t.ctl.linkState = .active ∧ t.ctl.integrationCount = 2
        ∧ (s.pool.relay = [] → s.angle.samples = #v[none, none, none, none] →
            t.port = (s.notify (.linkState .active .integrated)).port))
    ∧ (∀ q : Peer, s.ctl.fullCycle = true → s.ctl.integrationCount = 1 → s.ctl.straps.role = .panel →
      s.ctl.joinPending = false → s.ctl.peers[p] = some q →
      (q.state = .active → q.role = .panel → q.configDigest = s.port.configDigest →
        ∃ t, exec (.tailStart order) s = .next t ∧ t.ctl.linkState = .integrating ∧ t.ctl.integrationCount = 2
          ∧ t.ctl.joinPending = true ∧ t.div.dumpState = .asked
          ∧ t.pool.control = s.pool.control ++ [.resyncReq .join])
      ∧ (q.state = .active → q.role = .panel → q.configDigest ≠ s.port.configDigest →
        ∃ t, exec (.tailStart order) s = .next t ∧ t.ctl.linkState = .integrating ∧ t.ctl.integrationCount = 2
          ∧ t.ctl.mismatchReported = true
          ∧ (s.ctl.mismatchReported = false → s.pool.relay = [] → s.panel.state ≠ .blankPending →
              t.port = (s.notify (.configMismatch p s.port.configDigest q.configDigest)).port))
      ∧ (q.state = .coldstart →
        ∃ t, exec (.tailStart order) s = .next t
          ∧ t.ctl = { s.ctl with integrationCount := 2, syncMissCount := 0, syncMissed := 0 }))

/-- A tail start at an ACTIVE PANEL station that is its own pace, at which nothing runs out and no sample came: the
silence counters, the deadlines, the offers and the relay ages are counted, and the cycle is stale; every order of the
works gives the same state (R42, R84, R92, R103, R152). -/
def Obligations.QuietTailStart : Prop :=
  ∀ (order : List TailWork) (s : State), s.Runs → s.HoldsTables → s.ctl.pace = some s.own → s.port.cfg.InRange →
    Claim.NoLossDue s →
    s.div.candidates = #v[none, none, none, none] → s.div.requestCycle = false → s.div.freezeCount ≠ 8 →
    s.angle.samples = #v[none, none, none, none] → s.angle.ps.stale ≤ 8 → s.panel.state ≠ .blankPending →
    (∀ e ∈ s.txns.table, 2 ≤ e.cyclesLeft) → (∀ o ∈ s.txns.offers, o.state = .pending → 2 ≤ o.cyclesLeft) →
    (∀ r ∈ s.pool.relay, r.age + 1 < s.port.cfg.relayAgeLimit) →
    exec (.tailStart order) s = .next
      { s with
        link :=
          { s.link with
            silence := #v[s.link.silenceAfter s.own 0, s.link.silenceAfter s.own 1, s.link.silenceAfter s.own 2,
              s.link.silenceAfter s.own 3]
            heard := 0, settled := 0, timer := tailStartTime }
        ctl := { s.ctl with syncMissed := 0 }
        angle :=
          { s.angle with
            disagreeRun := 0, agreeRun := 0
            ps := { s.angle.ps with
              candidate := none, dwell := 0, distrustRun := 0, stale := s.angle.ps.stale + 1 } }
        txns :=
          { s.txns with
            table := s.txns.table.map (fun e => { e with cyclesLeft := e.cyclesLeft - 1 })
            offers := s.txns.offers.map (fun o =>
              if o.state = .pending then { o with cyclesLeft := o.cyclesLeft - 1 } else o) }
        div := { s.div with reference := none, giverCandidate := none }
        pool := { s.pool with relay := s.pool.relay.map (fun r => { r with age := r.age + 1 }) } }

/-- The posture step of a tail start with one sample, a valid primary, at an ACTIVE SENSOR station that is its own pace:
the agreed angle is its value; a posture whose widened band holds it is kept; another band is counted, and becomes the
posture at the dwell setting (R102, R104, R107, R108). -/
def Claim.PostureStepOfPrimary : Prop :=
  ∀ (order : List TailWork) (k : Station) (a : Nat) (s : State), s.Runs → s.ctl.linkState = .active →
    s.ctl.straps.role = .sensor → s.ctl.pace = some s.own → s.PaceIsLowest → s.port.cfg.InRange →
    s.angle.samples = (#v[none, none, none, none] : Vector (Option Sample) 4).set k (some ⟨.primary, true, a⟩) →
    s.angle.ps.distrust = false →
    ∃ t, exec (.tailStart order) s = .next t ∧ t.angle.angle = a ∧ t.angle.angleValid = true
      ∧ t.angle.samples = #v[none, none, none, none] ∧ t.angle.disagreeRun = 0 ∧ t.angle.agreeRun = 0
      ∧ t.angle.episode = s.angle.episode ∧ t.angle.ps.distrust = false ∧ t.angle.ps.distrustRun = 0
      ∧ t.angle.ps.stale = 0
      ∧ (∀ b, s.angle.ps.posture = .band b → inWidened s.port.cfg b a = true →
          t.angle.ps.posture = .band b ∧ t.angle.ps.candidate = none ∧ t.angle.ps.dwell = 0)
      ∧ ((s.angle.ps.posture = .unknown ∨ ∃ b, s.angle.ps.posture = .band b ∧ inWidened s.port.cfg b a = false) →
          ∀ n, n = (if s.angle.ps.candidate = some (bandOf s.port.cfg a) then s.angle.ps.dwell + 1 else 1) →
            (n < s.port.cfg.dwell → t.angle.ps.posture = s.angle.ps.posture
              ∧ t.angle.ps.candidate = some (bandOf s.port.cfg a) ∧ t.angle.ps.dwell = n)
            ∧ (s.port.cfg.dwell ≤ n → t.angle.ps.posture = .band (bandOf s.port.cfg a)
              ∧ t.angle.ps.candidate = none ∧ t.angle.ps.dwell = 0))

/-- The monitors of a tail start with one valid primary and two valid secondaries, at an ACTIVE SENSOR station that is its
own pace. Primary distrust: the cycles that would change the flag are counted, and at the disagree count it changes (R100,
R101). The agreed angle is the secondary mean while the primary is distrusted, else the primary (R102). Disagreement: the
run of cycles over the limit opens an episode with ANGLE_DISAGREE, the run of the others closes it (R104, R105). A distrust
run already at the disagree count, which only a dump can bring, changes the flag here (DESIGN CHOICE, log entry 36). -/
def Claim.MonitorsOfTail : Prop :=
  ∀ (order : List TailWork) (k i j : Station) (a b c : Nat) (s : State), s.Runs → s.ctl.linkState = .active →
    s.ctl.straps.role = .sensor → s.ctl.pace = some s.own → s.PaceIsLowest → k ≠ i → k ≠ j → i ≠ j →
    s.angle.samples = (((#v[none, none, none, none] : Vector (Option Sample) 4).set k (some ⟨.primary, true, a⟩)).set i
      (some ⟨.secondary, true, b⟩)).set j (some ⟨.secondary, true, c⟩) →
    let far (x y : Nat) : Bool := x + s.port.cfg.disagreeLimit < y || y + s.port.cfg.disagreeLimit < x
    let count : Nat := s.port.cfg.disagreeCount
    let mean : Nat := (b + c) / 2
    let hit : Bool :=
      if s.angle.ps.distrust = true then !far a mean else !far b c && far a b && far a c
    let run : Nat := if hit = true then s.angle.ps.distrustRun + 1 else 0
    let distrusted : Bool := if count ≤ run then !s.angle.ps.distrust else s.angle.ps.distrust
    let apart : Nat := if far a mean = true then min count (s.angle.disagreeRun + 1) else 0
    let close : Nat := if far a mean = true then 0 else min count (s.angle.agreeRun + 1)
    let opens : Bool := !s.angle.episode && far a mean && count ≤ apart
    let closes : Bool := s.angle.episode && !far a mean && count ≤ close
    1 ≤ count →
    ∃ t, exec (.tailStart order) s = .next t
      ∧ t.angle.ps.distrust = distrusted ∧ t.angle.ps.distrustRun = (if count ≤ run then 0 else run)
      ∧ t.angle.angle = (if distrusted = true then mean else a) ∧ t.angle.angleValid = true ∧ t.angle.ps.stale = 0
      ∧ t.angle.disagreeRun = apart ∧ t.angle.agreeRun = close
      ∧ t.angle.episode = (if opens = true then true else if closes = true then false else s.angle.episode)
      ∧ t.angle.samples = #v[none, none, none, none] ∧ t.angle.ownSample = s.angle.ownSample
      ∧ (Claim.NoLossDue s →
          (∃ x, s.angle.ps.posture = .band x ∧ inWidened s.port.cfg x t.angle.angle = true) →
          s.port.notices.length < 16 →
          t.port = { s.port with
            notices := s.port.notices
              ++ (if opens = true then [.angleDisagree true k a mean]
                else if closes = true then [.angleDisagree false k a mean] else []) })

/-- How many candidates of a cycle carry the digest of one of them. -/
def Claim.groupSize (w : Vector (Option Word) 4) (j : Station) : Nat := stations.countP (fun i => w[i] == w[j])

/-- A reference digest of the candidates of a cycle, with the giver candidate: no group of candidates is larger than the one
of that digest, every other group as large has no lower station than its lowest, and that station is the giver candidate
(R130). -/
abbrev Claim.IsReference (w : Vector (Option Word) 4) (r : Word) (g : Station) : Prop :=
  w[g] = some r ∧ ∀ j : Station, w[j] ≠ none →
    Claim.groupSize w j ≤ Claim.groupSize w g ∧ (w[j] = some r → g ≤ j)
      ∧ (Claim.groupSize w j = Claim.groupSize w g → w[j] = some r ∨ g < j)

/-- An own digest that differs from the reference of the cycle moves an ACTIVE PANEL station to RESYNC, with
LINK_STATE(RESYNC, DIVERGED): it asks for a copy, its own transactions end, each with TXN_DONE(RESYNC), the open ones in
table order and then the unsent ones in queue order, its offers are discarded, and its placement table is held, the entries
of its transaction table with it, counted down or not as the order of the works has it (R23, R92, R93, R130, R131). -/
def Obligations.DivergenceStartsResync : Prop :=
  ∀ (order : List TailWork) (k g : Station) (p : Peer) (d r : Word) (s : State), s.Runs → s.HoldsTables →
    s.ctl.pace = some s.own → k ≠ s.own → s.ctl.peers[k] = some p → p.state = .active →
    Claim.NoLossDue s →
    s.div.ownDigest = some d → d ≠ r → Claim.IsReference s.div.candidates r g →
    s.ctl.syncMissed = 0 → s.div.requestCycle = false → s.div.freezeCount = 0 → (∀ e ∈ s.txns.table, 2 ≤ e.cyclesLeft) →
    let ended : List (TxnId × Surf) :=
      (s.txns.table.filter (fun e => e.id.orig == s.own)).map (fun e => (e.id, e.surf))
        ++ s.pool.transaction.filterMap (fun m =>
          match m with
          | .proposeMove i sf _ _ | .proposeReturn i sf => some (i, sf)
          | _ => none)
    ∃ t, exec (.tailStart order) s = .next t ∧ t.ctl.linkState = .resync
      ∧ t.div =
          { s.div with
            reference := some r, giverCandidate := some g, attempts := 0, dumpState := .asked
            candidates := #v[none, none, none, none] }
      ∧ t.txns = { t.txns with offers := [], ownOpen := 0, seq := s.txns.seq }
      ∧ (t.txns.table = s.txns.table
          ∨ t.txns.table = s.txns.table.map (fun e => { e with cyclesLeft := e.cyclesLeft - 1 }))
      ∧ t.pool.transaction = [] ∧ t.pool.state = [] ∧ t.tables = s.tables
      ∧ t.pool.control = s.pool.control.filter (fun m => !m.isAnswer) ++ [.resyncReq .diverged]
      ∧ (s.link.sending = none → s.angle.samples = #v[none, none, none, none] → s.angle.ps.stale ≤ 8 →
          s.panel.state ≠ .blankPending → s.port.notices.length + ended.length < 16 →
          t.port = { s.port with
            notices := s.port.notices ++ .linkState .resync .diverged :: ended.map (fun c => .txnDone c.1 c.2 .resync) })

/-- The tail start of a request cycle at a tracking station: the giver candidate becomes the freeze giver, and without a
candidate the giver is none and a requester in WAITING fails its attempt, and before its third asks again (R130, R134,
R142). -/
def Claim.RequestCycleTakesGiver : Prop :=
  ∀ (order : List TailWork) (p : Station) (s : State), s.Runs → s.ctl.straps.role = .panel →
    (s.ctl.linkState = .resync ∨ s.ctl.linkState = .active
      ∨ s.ctl.linkState = .integrating ∧ s.ctl.joinPending = true ∧ s.otherTableHolder = true) →
    s.ctl.pace = some p → (p = s.own ∨ memSet s.ctl.syncMissed p = false) →
    Claim.NoLossDue s →
    s.div.requestCycle = true → s.div.freezeCount ≠ 8 →
    let none4 : Vector (Option Word) 4 := #v[none, none, none, none]
    (∀ (r : Word) (g : Station), Claim.IsReference s.div.candidates r g →
      (s.ctl.linkState = .active → s.div.ownDigest = none ∨ s.div.ownDigest = some r) →
      ∃ t, exec (.tailStart order) s = .next t ∧ t.ctl.linkState = s.ctl.linkState
        ∧ t.div =
            { s.div with
              reference := some r, giverCandidate := some g, freezeGiver := some g, candidates := none4 })
    ∧ (s.div.candidates = none4 → s.div.dumpState ≠ .waiting →
      ∃ t, exec (.tailStart order) s = .next t ∧ t.ctl.linkState = s.ctl.linkState
        ∧ t.div = { s.div with reference := none, giverCandidate := none, freezeGiver := none })
    ∧ (s.div.candidates = none4 → s.div.dumpState = .waiting → s.div.attempts < 2 → s.ctl.linkState ≠ .active →
      ∃ t, exec (.tailStart order) s = .next t ∧ t.ctl.linkState = s.ctl.linkState
        ∧ t.div =
            { s.div with
              reference := none, giverCandidate := none, freezeGiver := none, dumpState := .asked
              attempts := s.div.attempts + 1 }
        ∧ t.pool.control = s.pool.control
            ++ [.resyncReq (if s.ctl.linkState = LinkState.resync then .diverged else .join)]
        ∧ t.tables = s.tables ∧ t.txns = s.txns)

/-- A pending blank at a tail start, in HALTED and at an ACTIVE PANEL station at whose tail start nothing runs out: an idle
panel takes the dark mark and keeps its wait; one that is not idle waits one tail start less, and is LIT with
PANEL(BLANK_REFUSED) where none is left; a mark already set stays (R163, R165). -/
def Claim.PendingBlankAtTail : Prop :=
  ∀ (order : List TailWork) (s : State), s.Runs → s.ctl.straps.role = .panel → s.panel.state = .blankPending →
    (s.ctl.linkState = .halted
      ∨ s.ctl.linkState = .active ∧ s.ctl.pace = some s.own
        ∧ Claim.NoLossDue s
        ∧ s.div.candidates = #v[none, none, none, none] ∧ s.div.requestCycle = false ∧ s.div.freezeCount ≠ 8
        ∧ s.angle.samples = #v[none, none, none, none] ∧ s.angle.ps.stale ≤ 8
        ∧ (∀ e ∈ s.txns.table, 2 ≤ e.cyclesLeft)) →
    ∃ t, exec (.tailStart order) s = .next t
      ∧ (s.panel.darkMark = true → t.panel = s.panel ∧ t.port = s.port)
      ∧ (s.panel.darkMark = false → s.panelIdle = true →
          t.panel = { s.panel with darkMark := true } ∧ t.port = s.port)
      ∧ (s.panel.darkMark = false → s.panelIdle = false → 2 ≤ s.panel.blankWait →
          t.panel = { s.panel with blankWait := s.panel.blankWait - 1 } ∧ t.port = s.port)
      ∧ (s.panel.darkMark = false → s.panelIdle = false → s.panel.blankWait = 1 →
          t.panel = { s.panel with state := .lit, blankWait := 0 }
            ∧ t.port = (s.notify (.panel .blankRefused .lit)).port)

/-! ### The rows of the count limits: each acts where its standing condition holds (log entry 6) -/

/-- LOSS_DECLARATION in a receiving state: every other station that is not ABSENT, was not heard and has a silence count of
3 or more is lost, with all that follows a loss; no other entry and no stacking list changes (R62, R63, R64, R152). -/
def Obligations.LossesBySilence : Prop :=
  ∀ s : State, s.Runs → s.ctl.linkState ≠ .halted →
    let lost (k : Station) : Bool :=
      k != s.own && (s.ctl.peers[k]).isSome && !memSet s.link.heard k && 3 ≤ s.link.silence[k]
    ∃ t, exec .lossDeclaration s = .next t
      ∧ (∀ k : Station, t.ctl.peers[k] = if lost k then none else s.ctl.peers[k])
      ∧ t.pool.relay = s.pool.relay.filter (fun r => !lost r.dest)
      ∧ t.ctl.linkState = s.ctl.linkState ∧ t.link = s.link ∧ t.angle = s.angle ∧ t.div = s.div ∧ t.panel = s.panel
      ∧ t.tables.lists = s.tables.lists ∧ t.pool.transaction = s.pool.transaction ∧ t.pool.state = s.pool.state
      ∧ (∀ k : Station, lost k = true → (∀ j : Station, j ≠ k → lost j = false) → s.ctl.linkState ≠ .active →
          s.port.notices.length < 16 → t.port.notices = s.port.notices ++ [.peer k .lostSilent])
      ∧ ((s.txns.table.map Txn.id).Nodup → Claim.LossesTaken lost .lostSilent s t)

/-- LISTEN_EXPIRED in LISTEN with listen count 0: COLDSTART, and the next cycle start carries count 0 (R49, R50): the count
65535 until then is the model's (DEDUCED, log entry 8). -/
def Claim.ListenExpiredStartsColdstart : Prop :=
  ∀ s : State, s.Runs →
    (s.ctl.linkState = .listen → s.ctl.listenCount = 0 →
      ∃ t, exec .listenExpired s = .next t ∧ t.ctl.linkState = .coldstart ∧ t.ctl.coldstartCount = 0
        ∧ t.link = { s.link with cycle := 65535 } ∧ t.ctl.pace = paceOf s.own .coldstart s.ctl.peers
        ∧ t.ctl.peers = s.ctl.peers ∧ t.tables = s.tables ∧ t.pool = s.pool
        ∧ t.port = (s.notify (.linkState .coldstart .listenExpired)).port)
    ∧ ((s.ctl.linkState ≠ .listen ∨ s.ctl.listenCount ≠ 0) → exec .listenExpired s = .next s)

/-- COLDSTART_DONE in COLDSTART with coldstart count 8: ACTIVE with empty tables and the starting posture (R24, R50,
R99). -/
def Claim.ColdstartDoneActivates : Prop :=
  ∀ s : State, s.Runs →
    (s.ctl.linkState = .coldstart → s.ctl.coldstartCount = 8 →
      ∃ t, exec .coldstartDone s = .next t ∧ t.ctl.linkState = .active ∧ t.tables = Tables.empty
        ∧ t.txns = { s.txns with table := [], offers := [] } ∧ t.angle.ps = PostureState.start
        ∧ t.angle.angleValid = false ∧ t.angle.ownSample = s.angle.ownSample ∧ t.link = s.link ∧ t.pool = s.pool
        ∧ t.div = s.div ∧ t.panel = s.panel ∧ t.port = (s.notify (.linkState .active .coldstartDone)).port)
    ∧ ((s.ctl.linkState ≠ .coldstart ∨ s.ctl.coldstartCount < 8) → exec .coldstartDone s = .next s)

/-- INTEGRATED in INTEGRATING with integration count 2: a SENSOR station is ACTIVE; a PANEL station whose pace station
is an ACTIVE PANEL station asks for a copy where their config digests agree, and gives CONFIG_MISMATCH once where they
differ (R52, R53). That the requester is ASKED from the enqueue of its JOIN on is DEDUCED (log entry 29). -/
def Claim.IntegrationCompletes : Prop :=
  ∀ s : State, s.Runs → s.ctl.linkState = .integrating → s.ctl.integrationCount = 2 →
    (s.ctl.straps.role = .sensor →
      ∃ t, exec .integrated s = .next t ∧ t.ctl.linkState = .active ∧ t.angle.ps = PostureState.start
        ∧ t.link = s.link ∧ t.pool = s.pool ∧ t.port = (s.notify (.linkState .active .integrated)).port)
    ∧ (∀ (p : Station) (q : Peer), s.ctl.straps.role = .panel → s.ctl.joinPending = false → s.ctl.pace = some p →
        p ≠ s.own → s.ctl.peers[p] = some q → q.state = .active → q.role = .panel →
        (q.configDigest = s.port.configDigest →
          exec .integrated s = .next
            ({ s with
                ctl := { s.ctl with joinPending := true }
                div := { s.div with dumpState := .asked } }.queuesControl (.resyncReq .join)))
        ∧ (q.configDigest ≠ s.port.configDigest → s.ctl.mismatchReported = false →
          exec .integrated s = .next
            ({ s with ctl := { s.ctl with mismatchReported := true } }.notify
              (.configMismatch p s.port.configDigest q.configDigest)))
        ∧ (q.configDigest ≠ s.port.configDigest → s.ctl.mismatchReported = true → exec .integrated s = .next s))

/-- INTEGRATED at a PANEL station, the other outcomes. While the pace station's peer-view state is COLDSTART the check
waits. With a SENSOR pace the comparison station is the lowest ACTIVE PANEL station: on equal digests a copy is asked for,
on different ones CONFIG_MISMATCH names it; without such a station the check passes and the station is ACTIVE with empty
tables. A pending join waits while another ACTIVE PANEL station stands in the peer view, and is abandoned to ACTIVE with
empty tables where none does (R52, R53, R99, R132). That the requester is ASKED from the enqueue of its JOIN on is DEDUCED
(log entry 29). -/
def Claim.IntegrationWaitsOrStandsAlone : Prop :=
  ∀ s : State, s.Runs → s.ctl.linkState = .integrating → s.ctl.integrationCount = 2 → s.ctl.straps.role = .panel →
    let holds (k : Station) : Prop := ∃ q, s.ctl.peers[k] = some q ∧ q.state = .active ∧ q.role = .panel
    let alone (div : DivUnit) : Prop :=
      ∃ t, exec .integrated s = .next t ∧ t.ctl.linkState = .active ∧ t.ctl.joinPending = false
        ∧ t.tables = Tables.empty ∧ t.txns = { s.txns with table := [], offers := [] }
        ∧ t.angle.ps = PostureState.start ∧ t.angle.angleValid = false ∧ t.div = div ∧ t.link = s.link
        ∧ t.pool = s.pool ∧ t.panel = s.panel ∧ t.port = (s.notify (.linkState .active .integrated)).port
    (∀ (p : Station) (q : Peer), s.ctl.joinPending = false → s.ctl.pace = some p → s.ctl.peers[p] = some q →
      (q.state = .coldstart → exec .integrated s = .next s)
      ∧ (q.state ≠ .coldstart → q.role = .sensor → (∀ k : Station, ¬ holds k) → alone s.div)
      ∧ (∀ (c : Station) (u : Peer), q.state ≠ .coldstart → q.role = .sensor → c ≠ s.own → s.ctl.peers[c] = some u →
          u.state = .active → u.role = .panel → (∀ k : Station, k < c → ¬ holds k) →
          (u.configDigest = s.port.configDigest →
            exec .integrated s = .next
              ({ s with
                  ctl := { s.ctl with joinPending := true }
                  div := { s.div with dumpState := .asked } }.queuesControl (.resyncReq .join)))
          ∧ (u.configDigest ≠ s.port.configDigest → s.ctl.mismatchReported = false →
            exec .integrated s = .next
              ({ s with ctl := { s.ctl with mismatchReported := true } }.notify
                (.configMismatch c s.port.configDigest u.configDigest)))))
    ∧ (s.ctl.joinPending = true → (∃ k : Station, k ≠ s.own ∧ holds k) → exec .integrated s = .next s)
    ∧ (s.ctl.joinPending = true → (∀ k : Station, k ≠ s.own → ¬ holds k) →
      alone { s.div with dumpState := .none, attempts := 0, freezeCount := 0, freezeGiver := none })

/-- The sync miss count at a tail start in aligned reception, whatever the order of the works: a sync miss of the pace
station counts, a LATE one with which the pace station was not heard too, none restarts the count, and the second in a row
is SYNC_LOST: it goes to the MAJOR record, and the station detaches with cause SYNC_LOST to LISTEN, or to HALTED where a
LEAVE is pending; from RESYNC without a TXN_DONE (R44, R57, R66, R67, R73). A station that completes its integration, finds
divergence or has a freeze or a blank running out at the same tail start is left out. That the listen count is not counted
down at the tail start of the detachment is DEDUCED (log entry 20). -/
def Claim.SecondSyncMissDetaches : Prop :=
  ∀ (order : List TailWork) (p : Station) (s : State), s.Runs → s.ctl.linkState.aligned = true →
    s.ctl.pace = some p → p ≠ s.own → Claim.NoLossDue s → s.pool.relay = [] →
    (s.ctl.straps.role = .sensor
      ∨ s.div.requestCycle = false ∧ s.div.freezeCount ≠ 8 ∧ s.panel.state ≠ .blankPending
        ∧ (s.div.ownDigest = none ∨ s.div.candidates = #v[none, none, none, none])) →
    let full : Nat :=
      if s.ctl.linkState = .integrating ∧ s.ctl.fullCycle = true then s.ctl.integrationCount + 1
      else s.ctl.integrationCount
    (s.ctl.linkState = .integrating → full < 2) →
    let back : LinkState := if s.ctl.leavePending = true then .halted else .listen
    (memSet s.ctl.syncMissed p = true → s.ctl.syncMissCount = 1 →
      ∃ t, exec (.tailStart order) s = .next t ∧ s.DetachedTo t back ∧ t.link.minor = s.link.minor
        ∧ (s.link.major = none → t.link.major = some ⟨.syncLost, p, s.link.cycle⟩)
        ∧ (s.ctl.linkState = .resync ∨ s.counted = [] →
            s.ctl.linkState = .integrating ∨ s.angle.samples = #v[none, none, none, none] ∧ s.angle.ps.stale ≤ 8 →
            s.port.notices.length < 16 →
            t.port.notices = s.port.notices ++ [.linkState back .syncLost]))
    ∧ (memSet s.ctl.syncMissed p = true → s.ctl.syncMissCount = 0 →
      ∃ t, exec (.tailStart order) s = .next t
        ∧ t.ctl = { s.ctl with syncMissCount := 1, syncMissed := 0, integrationCount := full }
        ∧ t.link.major = s.link.major)
    ∧ (memSet s.ctl.syncMissed p = false →
      ∃ t, exec (.tailStart order) s = .next t
        ∧ t.ctl = { s.ctl with syncMissCount := 0, syncMissed := 0, integrationCount := full }
        ∧ t.link.major = s.link.major)

/-- A station in INTEGRATING or RESYNC without a pace station detaches at the tail start with cause NO_PACE, to LISTEN, or
to HALTED where a LEAVE is pending; from RESYNC without a TXN_DONE for a transaction that has ended there (R58, R66, R67,
R73). That the listen count is not counted down at that same tail start is DEDUCED (log entry 20). -/
def Claim.NoPaceDetaches : Prop :=
  ∀ (order : List TailWork) (s : State), s.Runs →
    (s.ctl.linkState = .integrating ∧ s.ctl.fullCycle = false ∧ s.ctl.integrationCount < 2
      ∨ s.ctl.linkState = .resync) →
    s.ctl.pace = none → Claim.NoLossDue s →
    s.pool.relay = [] → s.div.requestCycle = false → s.div.freezeCount ≠ 8 → s.panel.state ≠ .blankPending →
    let back : LinkState := if s.ctl.leavePending = true then .halted else .listen
    ∃ t, exec (.tailStart order) s = .next t ∧ s.DetachedTo t back
      ∧ t.link.minor = s.link.minor ∧ t.link.major = s.link.major
      ∧ (s.ctl.linkState = .resync ∨ s.counted = [] → s.angle.samples = #v[none, none, none, none] →
          s.angle.ps.stale ≤ 8 → s.port.notices.length < 16 →
          t.port.notices = s.port.notices ++ [.linkState back .noPace])

/-- STALE_LIMIT at a stale count of 10: the agreed angle is invalid and the posture UNKNOWN, with POSTURE(STALE) where it
was not (R103, R109). -/
def Claim.StaleLimitEndsPosture : Prop :=
  ∀ s : State, s.Runs →
    (s.ctl.linkState.present = true → s.angle.ps.stale = 10 → s.angle.ps.posture ≠ .unknown →
      exec .staleLimit s = .next
        ({ s with
            angle := { s.angle with
              angleValid := false, ps := { s.angle.ps with posture := .unknown } } }.notify
          (.posture .unknown s.angle.ps.posture s.angle.angle false .stale)))
    ∧ (s.ctl.linkState.present = true → s.angle.ps.stale = 10 → s.angle.ps.posture = .unknown →
      exec .staleLimit s = .next { s with angle := { s.angle with angleValid := false } })
    ∧ ((s.ctl.linkState.present = false ∨ s.angle.ps.stale ≠ 10) → exec .staleLimit s = .next s)

/-- DWELL_COMPLETE at a dwell count that has reached the dwell setting: the posture becomes the candidate, with
POSTURE(BAND) (R107, R108, R109). -/
def Claim.DwellMakesPosture : Prop :=
  ∀ (b : Band) (s : State), s.Runs → s.ctl.linkState.present = true → s.angle.ps.candidate = some b →
    (s.port.cfg.dwell ≤ s.angle.ps.dwell → s.angle.ps.posture ≠ .band b →
      exec .dwellComplete s = .next
        ({ s with
            angle := { s.angle with
              ps := { s.angle.ps with posture := .band b, candidate := none, dwell := 0 } } }.notify
          (.posture (.band b) s.angle.ps.posture s.angle.angle s.angle.angleValid .band)))
    ∧ (s.angle.ps.dwell < s.port.cfg.dwell → exec .dwellComplete s = .next s)

/-- FREEZE_LIMIT at a freeze count of 8: the freeze ends and a pending request is marked; a requester that collects has a
failed attempt and asks again (R138, R142). -/
def Claim.FreezeLimitEndsFreeze : Prop :=
  ∀ s : State, s.Runs →
    let ended : DivUnit :=
      { s.div with
        freezeCount := 0, freezeFlag := false, freezeGiver := none, pendingRequest := false
        nextMark := s.div.nextMark || s.div.pendingRequest }
    (s.tracking = true → s.div.freezeCount = 8 → s.div.dumpState.isCollecting = false →
      exec .freezeLimit s = .next { s with div := ended })
    ∧ (s.tracking = true → s.div.freezeCount = 8 → s.div.dumpState.isCollecting = true → s.div.attempts < 2 →
      exec .freezeLimit s = .next
        ({ s with div := { ended with attempts := s.div.attempts + 1, dumpState := .asked } }.queuesControl
          (.resyncReq (if s.ctl.linkState = LinkState.resync then .diverged else .join))))
    ∧ ((s.tracking = false ∨ s.div.freezeCount ≠ 8) → exec .freezeLimit s = .next s)

/-- DEADLINE at an ACTIVE PANEL station: the entries whose count has run out are removed, their surfaces unlocked; the
others and every stacking list stay (R69, R92). -/
def Claim.DeadlineRemovesExpired : Prop :=
  ∀ s : State, s.Runs → s.HoldsTables → (s.txns.table.map Txn.id).Nodup →
    ∃ t, exec .deadline s = .next t
      ∧ t.txns.table = s.txns.table.filter (fun e => e.cyclesLeft != 0)
      ∧ (∀ e ∈ s.txns.table, e.cyclesLeft = 0 →
          (t.surface e.surf).lock = none ∧ ∀ o ∈ t.txns.offers, o.id ≠ e.id)
      ∧ (∀ sf, (∀ e ∈ s.txns.table, e.cyclesLeft = 0 → e.surf ≠ sf) → t.surface sf = s.surface sf)
      ∧ t.txns.ownOpen = s.txns.ownOpen
          - s.txns.table.countP (fun e => e.cyclesLeft == 0 && e.id.orig == s.own)
      ∧ t.tables.lists = s.tables.lists ∧ t.link = s.link ∧ t.ctl = s.ctl ∧ t.angle = s.angle ∧ t.div = s.div
      ∧ t.panel = s.panel ∧ t.pool.state = s.pool.state ∧ t.pool.transaction = s.pool.transaction
      ∧ (∀ e, s.txns.table = [e] → e.cyclesLeft = 0 → e.id.orig = s.own → s.port.notices.length < 16 →
          t.port.notices = s.port.notices ++ [.txnDone e.id e.surf .timeout])

/-- OFFER_EXPIRY at an ACTIVE PANEL station: a PENDING offer whose count has run out is DECLINED with REFUSE(HOST_TIMEOUT)
(R84). That several REFUSEs go in record order is the model's choice (DESIGN CHOICE, log entry 35). -/
def Claim.OfferExpiryRefuses : Prop :=
  ∀ s : State, s.Runs → s.HoldsTables → (s.txns.offers.map Offer.id).Nodup →
    exec .offerExpiry s = .next
      { s with
        txns := { s.txns with
          offers := s.txns.offers.map (fun o =>
            if o.state = .pending ∧ o.cyclesLeft = 0 then { o with state := .declined } else o) }
        pool := { s.pool with
          control := s.pool.control
            ++ (s.txns.offers.filter (fun o => o.state == .pending && o.cyclesLeft == 0)).map
              (fun o => .refuse o.id (some .hostTimeout)) } }

/-- RELAY_AGED: the relays at the age limit are dropped, each counted, and the first two drops of the log kept (R152,
R159, R160). -/
def Obligations.AgedRelaysAreDropped : Prop :=
  ∀ s : State, s.Runs → s.pool.dropsRelay ≤ 65535 →
    let aged := s.pool.relay.filter (fun r => s.port.cfg.relayAgeLimit ≤ r.age)
    ∃ t, exec .relayAged s = .next { s with pool := t }
      ∧ t.relay = s.pool.relay.filter (fun r => r.age < s.port.cfg.relayAgeLimit)
      ∧ t.dropsRelay = min 65535 (s.pool.dropsRelay + aged.length)
      ∧ t.control = s.pool.control ∧ t.transaction = s.pool.transaction ∧ t.state = s.pool.state
      ∧ t.relayHold = s.pool.relayHold ∧ t.dropsTransaction = s.pool.dropsTransaction
      ∧ t.dropsState = s.pool.dropsState ∧ t.dropsInbound = s.pool.dropsInbound
      ∧ (s.pool.dropA ≠ none → t.dropA = s.pool.dropA)
      ∧ (∀ r rs, s.pool.dropA = none → aged = r :: rs →
          t.dropA = some ⟨.relay, .relayAged, 0x40, some r.dest, s.link.cycle⟩)

/-- BLANK_REFUSED at a pending blank without the dark mark whose wait has run out: the panel is LIT with
PANEL(BLANK_REFUSED) (R165). -/
def Claim.BlankWaitRunsOut : Prop :=
  ∀ s : State, s.Runs →
    (s.ctl.straps.role = .panel → s.panel.state = .blankPending → s.panel.darkMark = false → s.panel.blankWait = 0 →
      exec .blankRefused s
        = .next ({ s with panel := { s.panel with state := .lit } }.notify (.panel .blankRefused .lit)))
    ∧ ((s.ctl.straps.role = .sensor ∨ s.panel.state ≠ .blankPending ∨ s.panel.darkMark = true
        ∨ s.panel.blankWait ≠ 0) → exec .blankRefused s = .next s)

/-! ### Cycle close -/

/-- CYCLE_CLOSE begins the sensor read, and where the station is no ACTIVE PANEL station or the freeze is on nothing else
is done outside a request cycle (R96, R115, R127); in a request cycle an ACTIVE PANEL station removes every open entry
(R135). -/
def Claim.CycleCloseWithoutPass : Prop :=
  ∀ s : State, s.Runs →
    ((¬ s.HoldsTables ∨ s.div.freezeFlag = true) → s.div.requestCycle = false →
      exec .cycleClose s = .next
        { s with
          link := { s.link with timer := cycleCloseTime }
          angle := { s.angle with read := if s.ctl.straps.angle = .none then .idle else .running } })
    ∧ (s.HoldsTables → s.div.requestCycle = true → (s.txns.table.map Txn.id).Nodup →
      ∃ t, exec .cycleClose s = .next t ∧ t.txns.table = [] ∧ t.div.requestCycle = false)

/-- The arrival countdown of a cycle close at which no surface has to move, since every target is usable and no surface is in
scope of the restore part: each arriving count falls by one, of an evacuated surface too, and the tables are otherwise
unchanged (R115, R121, R124). -/
def Claim.ArrivalCountdown : Prop :=
  ∀ s : State, s.Runs → s.HoldsTables → s.div.freezeFlag = false → s.div.requestCycle = false →
    (∀ t, targetConfigured s.port.cfg t = true → s.usable t = true) →
    (∀ (sf : Surf) (p : Placement), (s.surface sf).implicit = true → (s.surface sf).ret = some p →
      (s.surface sf).lock = none → s.usable p.target = true → (s.ruleOf p.target).restore = false) →
    (∀ (sf : Surf) (n : Nat), (s.surface sf).arriving = some n → 2 ≤ n) →
    ∃ t, exec .cycleClose s = .next t ∧ t.tables.lists = s.tables.lists
      ∧ (∀ sf : Surf, t.surface sf = { s.surface sf with arriving := (s.surface sf).arriving.map (· - 1) })
      ∧ t.txns = s.txns ∧ t.pool = s.pool ∧ t.port = s.port ∧ t.ctl = s.ctl ∧ t.panel = s.panel ∧ t.div = s.div

/-- Evacuation at a cycle close of the one surface of the table, placed unlocked on an unusable panel: it is moved to the
back of the first fallback that is usable, with its placement as return placement, and parked where none is; the hosts of
the old and the new owner are told in order (R116 to R120, R123). -/
def Claim.EvacuationMovesOrParks : Prop :=
  ∀ (sf : Surf) (k : Station) (r : Region) (s : State), s.Runs → s.HoldsTables → s.div.freezeFlag = false →
    s.div.requestCycle = false → s.txns.table = [] → memSet s.port.cfg.panelSet k = true →
    (s.surface sf).state = .placed → (s.surface sf).target = some (.panel k) → (s.surface sf).region = some r →
    (s.surface sf).owner = some k → (s.surface sf).lock = none → (s.surface sf).implicit = false →
    (s.surface sf).arriving = none → (∀ sf', sf' ≠ sf → (s.surface sf') = Entry.free) →
    s.tables.lists = (#v[[], [], [], []] : Vector (List Surf) 4).set k [sf] → s.usable (.panel k) = false →
    (∀ j : Station, j ≠ k → s.usable (.panel j) = true → (s.ruleOf (.panel k)).fallbacks = [.panel j] →
      ∃ t, exec .cycleClose s = .next t
        ∧ t.surface sf = { s.surface sf with
            target := some (.panel j), region := some ⟨0, 0, 24, 32⟩, owner := some j, implicit := true
            ret := some ⟨.panel k, r⟩
            arriving := if s.port.cfg.group k = s.port.cfg.group j then none else some s.port.cfg.arrivalLimit }
        ∧ t.tables.lists = (#v[[], [], [], []] : Vector (List Surf) 4).set j [sf]
        ∧ (∀ sf', sf' ≠ sf → t.surface sf' = Entry.free)
        ∧ ∀ given : List Notice,
            given = (if k = s.own then
                [.surfaceLost sf (s.surface sf).appTag ⟨.panel j, ⟨0, 0, 24, 32⟩⟩ k .evacuated] else [])
              ++ (if j = s.own then
                .surfaceGained sf (s.surface sf).appTag ⟨.panel j, ⟨0, 0, 24, 32⟩⟩ j .evacuated ::
                  (if s.port.cfg.group k = s.port.cfg.group j then []
                    else [.surfaceArriving sf (s.surface sf).appTag ⟨.panel j, ⟨0, 0, 24, 32⟩⟩ s.port.cfg.arrivalLimit])
                else []) →
            s.port.notices.length + given.length ≤ 16 →
            t.port = { s.port with notices := s.port.notices ++ given })
    ∧ ((∀ f ∈ (s.ruleOf (.panel k)).fallbacks, s.usable f = false) →
      ∃ t, exec .cycleClose s = .next t
        ∧ t.surface sf = { s.surface sf with
            state := .parked, target := none, implicit := true, ret := some ⟨.panel k, r⟩ }
        ∧ t.tables.lists = #v[[], [], [], []] ∧ (∀ sf', sf' ≠ sf → t.surface sf' = Entry.free)
        ∧ (k = s.own → s.port.notices.length < 16 → t.port.notices = s.port.notices
            ++ [.surfaceParked sf (s.surface sf).appTag (some r) (some ⟨.panel k, r⟩) .evacuated]))

/-- Restore at a cycle close of the one surface of the table, parked with a return placement on a usable panel whose rule
has RESTORE: it stands there again, its implicit flag and return placement cleared, and the hosts of the old and the new
owner are told in order (R119, R121, R122, R123). -/
def Claim.RestoreBringsBack : Prop :=
  ∀ (sf : Surf) (k o : Station) (r : Region) (s : State), s.Runs → s.HoldsTables → s.div.freezeFlag = false →
    s.div.requestCycle = false → s.txns.table = [] → (s.surface sf).state = .parked → (s.surface sf).target = none →
    (s.surface sf).owner = some o → (s.surface sf).ret = some ⟨.panel k, r⟩ → (s.surface sf).implicit = true →
    (s.surface sf).lock = none → (s.surface sf).arriving = none →
    (∀ sf', sf' ≠ sf → (s.surface sf') = Entry.free) → s.tables.lists = #v[[], [], [], []] →
    s.usable (.panel k) = true → (s.ruleOf (.panel k)).restore = true →
    ∃ t, exec .cycleClose s = .next t
      ∧ t.surface sf = { s.surface sf with
          state := .placed, target := some (.panel k), region := some r, owner := some k, implicit := false, ret := none
          arriving := if s.port.cfg.group o = s.port.cfg.group k then none else some s.port.cfg.arrivalLimit }
      ∧ t.tables.lists = (#v[[], [], [], []] : Vector (List Surf) 4).set k [sf]
      ∧ (∀ sf', sf' ≠ sf → t.surface sf' = Entry.free)
      ∧ ∀ given : List Notice,
          given = (if o ≠ k ∧ o = s.own then [.surfaceLost sf (s.surface sf).appTag ⟨.panel k, r⟩ o .restored] else [])
            ++ (if k = s.own then
              .surfaceGained sf (s.surface sf).appTag ⟨.panel k, r⟩ k .restored ::
                (if s.port.cfg.group o = s.port.cfg.group k then []
                  else [.surfaceArriving sf (s.surface sf).appTag ⟨.panel k, r⟩ s.port.cfg.arrivalLimit])
              else []) →
          s.port.notices.length + given.length ≤ 16 →
          t.port = { s.port with notices := s.port.notices ++ given }

/-- ARRIVAL_TIMEOUT parks the one arriving surface whose count has run out, with SURFACE_PARKED for its owner; it keeps its
implicit flag and return placement (R125). That it keeps them where the implicit flag is no is the model's choice (DESIGN
CHOICE, log entry 38). With no such surface the row has no effect, as in a freeze or outside ACTIVE (log entry 6). -/
def Claim.ArrivalTimeoutParks : Prop :=
  ∀ (sf : Surf) (s : State), s.Runs →
    (s.HoldsTables → s.div.freezeFlag = false → (s.surface sf).arriving = some 0 → (s.surface sf).lock = none →
      (∀ sf', sf' ≠ sf → (s.surface sf').arriving ≠ some 0) →
      ∃ t, exec .arrivalTimeout s = .next
          ({ s with tables := t }.notifyAt (s.surface sf).owner
            (.surfaceParked sf (s.surface sf).appTag (s.surface sf).region (s.surface sf).ret .arrivalTimeout))
        ∧ t.entries = s.tables.entries.set sf { s.surface sf with state := .parked, target := none, arriving := none }
        ∧ ∀ j : Station, t.lists[j] = s.tables.lists[j].filter (· != sf))
    ∧ ((¬ s.HoldsTables ∨ s.div.freezeFlag = true ∨ ∀ sf', (s.surface sf').arriving ≠ some 0) →
      exec .arrivalTimeout s = .next s)

/-- SENSOR_READ_DONE completes a running read: with the two data bytes, the most significant first, where the sensor gave
every acknowledgement, else with FAILED; the transaction ends with a stop condition (R96). With no read running it has no
effect (log entry 16). -/
def Claim.SensorReadCompletes : Prop :=
  ∀ (a : SensorAnswer) (s : State), s.Runs →
    (s.angle.read = .running →
      (a.ackWrite = true → a.ackPointer = true → a.ackRead = true →
        exec (.sensorReadDone a) s = .next
          { s with
            angle := { s.angle with read := .done (.reading (a.first ++ a.second)) }
            sensorBus := [.start, .address 0x2C false true, .sent 0x00 true, .start, .address 0x2C true true,
              .taken a.first, .taken a.second, .stop] })
      ∧ ((a.ackWrite = false ∨ a.ackPointer = false ∨ a.ackRead = false) →
        ∃ bus, exec (.sensorReadDone a) s = .next
            { s with angle := { s.angle with read := .done .failed }, sensorBus := bus }
          ∧ bus.getLast? = some .stop ∧ ∀ b, .taken b ∉ bus))
    ∧ (s.angle.read ≠ .running → exec (.sensorReadDone a) s = .next s)

/-- LATCH acknowledges the outstanding transfer: none is outstanding, the miss count is 0, and a degraded panel recovers
with PANEL(RECOVERED); with nothing outstanding, and at a SENSOR station, it is ignored (R173). -/
def Obligations.LatchAcknowledges : Prop :=
  ∀ s : State, s.Runs →
    (∀ o, s.ctl.straps.role = .panel → s.panel.outstanding = some o →
      (s.panel.degraded = false →
        exec .latch s = .next { s with panel := { s.panel with outstanding := none, missCount := 0 } })
      ∧ (s.panel.degraded = true →
        exec .latch s = .next
          ({ s with
              panel := { s.panel with outstanding := none, missCount := 0, degraded := false } }.notify
            (.panel .recovered s.panel.state))))
    ∧ ((s.ctl.straps.role = .sensor ∨ s.panel.outstanding = none) → exec .latch s = .next s)

/-! ### Accesses (R176, R177, R178) -/

/-- An access kind or a command kind with no assigned value is answered BAD_ARG and changes nothing else (R176, R177).
That the rows answer so with any kind byte, an assigned one too, which the table gives them no way to have, is log
entry 25. -/
def Claim.UnassignedKindsRefused : Prop :=
  ∀ (kind : Byte) (args : List Byte) (s : State), s.Runs →
    exec (.unassignedAccessKind kind) s
        = .next { s with port := { s.port with access := some ⟨kind, none, [0x13]⟩ } }
    ∧ exec (.unassignedCommandKind kind args) s = .next (s.replies kind [0x13])

/-- A command whose argument length is not the one its kind has is refused BAD_ARG in every state, with no other effect
(R177). -/
def Claim.WrongLengthRefused : Prop :=
  ∀ (args : List Byte) (s : State), s.Runs →
    (∀ q ∈ ([(Instr.setConfig, 0x01, 5), (.start, 0x02, 0), (.leave, 0x03, 0), (.create, 0x10, 8), (.destroy, 0x11, 1),
        (.showCmd, 0x12, 1), (.hide, 0x13, 1), (.raise, 0x14, 1), (.lower, 0x15, 1), (.resize, 0x16, 6),
        (.confirm, 0x17, 1), (.move, 0x20, 8), (.returnCmd, 0x21, 1), (.cancel, 0x22, 2), (.accept, 0x23, 2),
        (.decline, 0x24, 2), (.blank, 0x31, 0), (.wake, 0x32, 0), (.clearAdjust, 0x33, 0), (.clearLinkLog, 0x34, 0)] :
        List ((List Byte → Instr) × Byte × Nat)),
      args.length ≠ q.2.2 → exec (q.1 args) s = .next (s.replies q.2.1 [0x13]))
    ∧ ((args.length < 2 ∨ 25 < args.length) → exec (.relay args) s = .next (s.replies 0x30 [0x13]))

/-- The rise of CS_N writes the last-access record: COMPLETE with the result where the whole reply went out, REPLY_CUT
with it where it did not, and REQUEST_CUT without one where the request was not complete (R178). -/
def Claim.AccessEndRecords : Prop :=
  ∀ (request : List Byte) (clocked : Nat) (s : State), s.Runs →
    (∀ a, s.port.access = some a → a.reply.length ≤ clocked →
      exec (.accessEnd request clocked) s = .next
        { s with
          port := { s.port with
            access := none, lastAccess := some ⟨some a.kind, a.command, a.reply.head?, .complete⟩ } })
    ∧ (∀ a, s.port.access = some a → clocked < a.reply.length →
      exec (.accessEnd request clocked) s = .next
        { s with
          port := { s.port with
            access := none, lastAccess := some ⟨some a.kind, a.command, a.reply.head?, .replyCut⟩ } })
    ∧ (s.port.access = none →
      ∃ a : LastAccess, a.kind = request.head? ∧ a.result = none ∧ a.completion = .requestCut
        ∧ (∀ c rest, request = 0x01 :: c :: rest → a.command = some c)
        ∧ exec (.accessEnd request clocked) s = .next { s with port := { s.port with lastAccess := some a } })

/-- The request bytes on MOSI make the access event with their last byte: a COMMAND with its kind, its length byte and as
many argument bytes; READ_ENTRY with its surface byte; every other kind alone. Bytes after it change nothing, and fewer
make no event (R176, Table 11-4). -/
def Claim.RequestBytesMakeAccess : Prop :=
  (∀ (c : Byte) (args more : List Byte), args.length ≤ 255 →
    accessOf (0x01 :: c :: natByte args.length :: (args ++ more)) = some (commandOf c args))
  ∧ (∀ (b : Byte) (more : List Byte), accessOf (0x04 :: b :: more) = some (.readEntry b))
  ∧ (∀ more : List Byte,
    accessOf (0x02 :: more) = some .readNotice ∧ accessOf (0x03 :: more) = some .readStatus
      ∧ accessOf (0x05 :: more) = some .readDropLog ∧ accessOf (0x06 :: more) = some .readLinkLog
      ∧ ∀ k : Byte, (k = 0 ∨ 6 < k.toNat) → accessOf (k :: more) = some (.unassignedAccessKind k))
  ∧ accessOf [] = none ∧ accessOf [0x01] = none ∧ (∀ c : Byte, accessOf [0x01, c] = none) ∧ accessOf [0x04] = none
  ∧ (∀ (c len : Byte) (args : List Byte), args.length < len.toNat → accessOf (0x01 :: c :: len :: args) = none)
  ∧ (∀ args : List Byte,
    (∀ q ∈ ([(0x01, .setConfig), (0x02, .start), (0x03, .leave), (0x10, .create), (0x11, .destroy), (0x12, .showCmd),
        (0x13, .hide), (0x14, .raise), (0x15, .lower), (0x16, .resize), (0x17, .confirm), (0x20, .move),
        (0x21, .returnCmd), (0x22, .cancel), (0x23, .accept), (0x24, .decline), (0x30, .relay), (0x31, .blank),
        (0x32, .wake), (0x33, .clearAdjust), (0x34, .clearLinkLog)] : List (Byte × (List Byte → Instr))),
      commandOf q.1 args = q.2 args)
    ∧ ∀ c : Byte, c ∉ assignedCommandKinds → commandOf c args = .unassignedCommandKind c args)

/-- The bytes clocked out on MISO after the access event are the reply, and zero beyond its end (R176). -/
def Claim.MisoGivesReplyThenZeros : Prop :=
  ∀ (a : Access) (n : Nat) (s : State), s.port.access = some a →
    (∀ h : n < a.reply.length, s.misoByte n = a.reply[n]) ∧ (a.reply.length ≤ n → s.misoByte n = 0)

/-! ### Configuration, START and LEAVE -/

/-- SET_CONFIG outside HALTED is NOT_HALTED. In HALTED an item number outside 1..52 is BAD_ARG, and an item takes a value
of its range and refuses any other: here the lower boundary (7), the span pair (6), a posture rule (12..36), the answer
window (37) and the strict mask (40) (R180, Table 11-6). -/
def Claim.SetConfigOfPairRuleAndMask : Prop :=
  ∀ (item v0 v1 v2 v3 : Byte) (s : State), s.Runs →
    let cmd : Instr := .setConfig [item, v0, v1, v2, v3]
    let sets (c : ConfigItems) : Prop :=
      exec cmd s = .next ({ s with port := { s.port with cfg := c } }.replies 0x01 [0x00])
    let refused (code : Byte) : Prop := exec cmd s = .next (s.replies 0x01 [code])
    (s.ctl.linkState ≠ .halted → refused 0x10)
    ∧ (s.ctl.linkState = .halted →
      ((item.toNat = 0 ∨ 52 < item.toNat) → refused 0x13)
      ∧ (item.toNat = 7 → v0 = 0 → v1 = 0 → 1 ≤ (toHalf v2 v3).toNat → (toHalf v2 v3).toNat ≤ 1850 →
          sets { s.port.cfg with b1 := (toHalf v2 v3).toNat })
      ∧ (item.toNat = 7 → (v0 ≠ 0 ∨ v1 ≠ 0 ∨ (toHalf v2 v3).toNat = 0 ∨ 1850 < (toHalf v2 v3).toNat) → refused 0x13)
      ∧ (∀ a b : Station, item.toNat = 6 → v0 = 0 → v1 = 0 → v2 = stationByte a → v3 = stationByte b →
          (a ≠ b → sets { s.port.cfg with spanPair := some (a, b) }) ∧ (a = b → refused 0x13))
      ∧ (item.toNat = 6 → v0 = 0 → v1 = 0 → v2 = 0xFF → v3 = 0xFF → sets { s.port.cfg with spanPair := none })
      ∧ (12 ≤ item.toNat → item.toNat ≤ 36 → v0.toNat ≤ 3 →
          (v1 = 0 → ∃ c, sets c ∧ c = { s.port.cfg with rules := c.rules }
            ∧ c.rules.toList = s.port.cfg.rules.toList.set (item.toNat - 12) ⟨v0.getLsbD 0, v0.getLsbD 1, []⟩)
          ∧ (∀ t u, v1 = 2 → v2 = targetByte t → v3 = targetByte u →
            ∃ c, sets c ∧ c = { s.port.cfg with rules := c.rules }
              ∧ c.rules.toList = s.port.cfg.rules.toList.set (item.toNat - 12) ⟨v0.getLsbD 0, v0.getLsbD 1, [t, u]⟩)
          ∧ (2 < v1.toNat → refused 0x13))
      ∧ (item.toNat = 37 → v0 = 0 → v1 = 0 → v2 = 0 → 4 ≤ v3.toNat → v3.toNat ≤ 63 →
          sets { s.port.cfg with answerWindow := v3.toNat })
      ∧ (item.toNat = 37 → (v0 ≠ 0 ∨ v1 ≠ 0 ∨ v2 ≠ 0 ∨ v3.toNat < 4 ∨ 63 < v3.toNat) → refused 0x13)
      ∧ (item.toNat = 40 → v0 = 0 → v1 = 0 → v2 = 0 → v3.toNat ≤ 7 →
          sets { s.port.cfg with
            strictClipped := v3.getLsbD 0, strictNoChange := v3.getLsbD 1, strictReturnReplaced := v3.getLsbD 2 }))

/-- SET_CONFIG in HALTED of every item that is one number, by the range of its item: in byte 3 or in bytes 2 and 3, the
bytes not named 0; a value outside the range is BAD_ARG. A posture rule with one fallback takes it whatever the byte of the
second; a fallback byte in use that is no target is BAD_ARG, and so are span pair bytes that are no stations. That a posture
rule or a strict mask with a bit Table 11-6 does not name is BAD_ARG is DEDUCED (log entry 28) (R180, R192, Tables 10-5 and
11-6). -/
def Claim.SetConfigOfNumbers : Prop :=
  ∀ (item v0 v1 v2 v3 : Byte) (s : State), s.Runs → s.ctl.linkState = .halted →
    let cmd : Instr := .setConfig [item, v0, v1, v2, v3]
    let c : ConfigItems := s.port.cfg
    let sets (d : ConfigItems) : Prop :=
      exec cmd s = .next ({ s with port := { s.port with cfg := d } }.replies 0x01 [0x00])
    let refused : Prop := exec cmd s = .next (s.replies 0x01 [0x13])
    let half : Nat := (toHalf v2 v3).toNat
    (∀ q ∈ ([(1, 0, 15, fun n => { c with panelSet := BitVec.ofNat 4 n }),
        (2, 0, 4, fun n => { c with groups := c.groups.set 0 n }), (3, 0, 4, fun n => { c with groups := c.groups.set 1 n }),
        (4, 0, 4, fun n => { c with groups := c.groups.set 2 n }), (5, 0, 4, fun n => { c with groups := c.groups.set 3 n }),
        (37, 4, 63, fun n => { c with answerWindow := n }), (38, 1, 61, fun n => { c with offerLimit := n }),
        (39, 2, 255, fun n => { c with arrivalLimit := n }), (41, 0, 1, fun n => { c with weighted := n == 1 }),
        (42, 1, 4, fun n => { c with weightTransaction := n }), (43, 1, 4, fun n => { c with weightState := n }),
        (44, 1, 4, fun n => { c with weightRelay := n }), (45, 1, 20, fun n => { c with limitHigh := n }),
        (46, 1, 20, fun n => { c with limitLow := n }), (47, 0, 6, fun n => { c with relayCap := n }),
        (48, 8, 255, fun n => { c with relayAgeLimit := n }), (49, 0, 63, fun n => { c with blankIdleLimit := n }),
        (50, 1, 15, fun n => { c with wakeTime := n })] : List (Nat × Nat × Nat × (Nat → ConfigItems))),
      item.toNat = q.1 →
      (v0 = 0 → v1 = 0 → v2 = 0 → q.2.1 ≤ v3.toNat → v3.toNat ≤ q.2.2.1 → sets (q.2.2.2 v3.toNat))
      ∧ ((v0 ≠ 0 ∨ v1 ≠ 0 ∨ v2 ≠ 0 ∨ v3.toNat < q.2.1 ∨ q.2.2.1 < v3.toNat) → refused))
    ∧ (∀ q ∈ ([(7, 1, 1850, fun n => { c with b1 := n }), (8, 1, 1850, fun n => { c with b2 := n }),
        (9, 1, 1850, fun n => { c with b3 := n }), (10, 0, 100, fun n => { c with hysteresis := n }),
        (11, 1, 15, fun n => { c with dwell := n }), (51, 20, 400, fun n => { c with disagreeLimit := n }),
        (52, 2, 32, fun n => { c with disagreeCount := n })] : List (Nat × Nat × Nat × (Nat → ConfigItems))),
      item.toNat = q.1 →
      (v0 = 0 → v1 = 0 → q.2.1 ≤ half → half ≤ q.2.2.1 → sets (q.2.2.2 half))
      ∧ ((v0 ≠ 0 ∨ v1 ≠ 0 ∨ half < q.2.1 ∨ q.2.2.1 < half) → refused))
    ∧ (12 ≤ item.toNat → item.toNat ≤ 36 →
      (∀ t, v0.toNat ≤ 3 → v1 = 1 → v2 = targetByte t →
        ∃ d, sets d ∧ d = { c with rules := d.rules }
          ∧ d.rules.toList = c.rules.toList.set (item.toNat - 12) ⟨v0.getLsbD 0, v0.getLsbD 1, [t]⟩)
      ∧ ((v1 = 1 ∨ v1 = 2) → (∀ t, v2 ≠ targetByte t) → refused)
      ∧ (v1 = 2 → (∀ t, v3 ≠ targetByte t) → refused) ∧ (3 < v0.toNat → refused))
    ∧ (item.toNat = 6 → (v0 ≠ 0 ∨ v1 ≠ 0 ∨ (∀ k, v2 ≠ stationByte k) ∧ (v2 ≠ 0xFF ∨ v3 ≠ 0xFF)
        ∨ (∀ k, v3 ≠ stationByte k) ∧ (v2 ≠ 0xFF ∨ v3 ≠ 0xFF)) → refused)
    ∧ (item.toNat = 40 → (v0 ≠ 0 ∨ v1 ≠ 0 ∨ v2 ≠ 0 ∨ 7 < v3.toNat) → refused)

/-- START in HALTED makes the seven checks in order: the first that fails is named in BAD_CONFIG and nothing else changes;
where all pass the block is locked, the config digest computed, and the station is in LISTEN with its listen count.
Outside HALTED it is NOT_HALTED (R47, R181, R182). -/
def Obligations.StartChecksThenListens : Prop :=
  ∀ s : State, s.Runs →
    (s.ctl.linkState ≠ .halted → exec (.start []) s = .next (s.replies 0x02 [0x10]))
    ∧ (∀ n, s.ctl.linkState = .halted → 1 ≤ n → n ≤ 7 → (∀ m, 1 ≤ m → m < n → s.StartCheck m) → ¬ s.StartCheck n →
      exec (.start []) s = .next (s.replies 0x02 [0x14, natByte n]))
    ∧ (s.ctl.linkState = .halted → (∀ n, 1 ≤ n → n ≤ 7 → s.StartCheck n) →
      ∃ t, exec (.start []) s = .next t ∧ t.ctl.linkState = .listen ∧ t.ctl.listenCount = 4 + s.own.val
        ∧ t.ctl.peers = s.ctl.peers ∧ t.ctl.straps = s.ctl.straps
        ∧ t.port = { (s.notify (.linkState .listen .start)).port with
            locked := true, configDigest := some (crc32 (sharedItemBytes s.port.cfg))
            access := some ⟨0x01, some 0x02, [0x00]⟩ }
        ∧ t.link = s.link ∧ t.angle = s.angle ∧ t.tables = s.tables ∧ t.txns = s.txns ∧ t.pool = s.pool
        ∧ t.panel = s.panel ∧ t.div = s.div)

/-- LEAVE by link state: DONE without a change in HALTED, detachment to HALTED at once in LISTEN, leave pending and QUEUED
in a sending state (R65). -/
def Obligations.LeaveByLinkState : Prop :=
  ∀ s : State, s.Runs →
    (s.ctl.linkState = .halted → exec (.leave []) s = .next (s.replies 0x03 [0x00]))
    ∧ (s.ctl.linkState = .listen →
      ∃ t, exec (.leave []) s = .next t ∧ s.DetachedTo t .halted
        ∧ t.port.access = some ⟨0x01, some 0x03, [0x00]⟩
        ∧ (s.counted = [] → s.port.notices.length < 16 →
            t.port.notices = s.port.notices ++ [.linkState .halted .leave]))
    ∧ (s.ctl.linkState.sends = true →
      exec (.leave []) s = .next ({ s with ctl := { s.ctl with leavePending := true } }.replies 0x03 [0x01]))

/-! ### Surface commands -/

/-! The rectangle of a command with a region: ABS the bytes themselves, REL the present region moved by them (R21, R74,
R192). -/

/-- A lenient soft condition that a command found: its adjust flag is set, and an empty capture record takes the command kind,
the surface and the condition (R183). -/
def Claim.adjusted (c : SoftCondition) (command : Byte) (sf : Option Surf) (s : State) : State :=
  { s with
    port := { s.port with
      adjClipped := s.port.adjClipped || c == .clipped
      adjNoChange := s.port.adjNoChange || c == .noChange
      adjReturnReplaced := s.port.adjReturnReplaced || c == .returnReplaced
      capture := if s.port.capture = none then some ⟨command, sf, c⟩ else s.port.capture } }

/-- The bytes of an ABS region lie in 0..63, those of a REL offset in −63..63. -/
abbrev Claim.BytesFit (mode a b c d : Byte) : Prop :=
  mode = 0x00 ∧ (∀ v ∈ [a, b, c, d], v.toNat ≤ 63)
    ∨ mode = 0x01 ∧ ∀ v ∈ [a, b, c, d], -63 ≤ v.toInt ∧ v.toInt ≤ 63

/-- The rectangle before the clip. -/
def Claim.rectOf (present : Region) (mode a b c d : Byte) : Rect :=
  if mode = 0x00 then ⟨a.toNat, b.toNat, c.toNat, d.toNat⟩
  else ⟨present.x + a.toInt, present.y + b.toInt, present.w + c.toInt, present.h + d.toInt⟩

/-- A rectangle without a region on a grid of some columns: a width or height of 0 or below, or no cell on the grid. -/
abbrev Claim.OffGrid (cols : Nat) (q : Rect) : Prop :=
  q.w ≤ 0 ∨ q.h ≤ 0 ∨ (cols : Int) ≤ q.x ∨ 32 ≤ q.y ∨ q.x + q.w ≤ 0 ∨ q.y + q.h ≤ 0

/-- A rectangle reaches past a grid of some columns and has the region as its clip (R4). -/
abbrev Claim.ClippedTo (cols : Nat) (q : Rect) (r : Region) : Prop :=
  1 ≤ q.w ∧ 1 ≤ q.h ∧ (q.x < 0 ∨ q.y < 0 ∨ (cols : Int) < q.x + q.w ∨ 32 < q.y + q.h) ∧ 1 ≤ r.w ∧ 1 ≤ r.h
    ∧ (r.x : Int) = max q.x 0 ∧ (r.y : Int) = max q.y 0 ∧ (r.x : Int) + r.w = min (q.x + q.w) cols
    ∧ (r.y : Int) + r.h = min (q.y + q.h) 32

/-- Mode and bytes other than FULL that give no region on a grid of some columns: an unassigned mode, a byte outside its
range, or a rectangle off the grid (check 6 of R21 and R75, R192). -/
abbrev Claim.GivesNoRegion (cols : Nat) (present : Region) (mode a b c d : Byte) : Prop :=
  mode ≠ 0x02 ∧ (¬ Claim.BytesFit mode a b c d ∨ Claim.OffGrid cols (Claim.rectOf present mode a b c d))

/-- Mode and bytes whose rectangle reaches past a grid of some columns and has the region as its clip. -/
abbrev Claim.ClipsTo (cols : Nat) (present : Region) (mode a b c d : Byte) (r : Region) : Prop :=
  Claim.BytesFit mode a b c d ∧ Claim.ClippedTo cols (Claim.rectOf present mode a b c d) r

/-- Checks 1 to 4 of R21 in their order, for every command that names a surface, and checks 1, 2 and 6 for CREATE: a
refused command changes nothing but the reply. -/
def Claim.FirstSurfaceChecks : Prop :=
  ∀ (b m x y w h : Byte) (s : State), s.Runs →
    (∀ q ∈ ([(.destroy [b], 0x11), (.showCmd [b], 0x12), (.hide [b], 0x13), (.raise [b], 0x14), (.lower [b], 0x15),
        (.resize [b, m, x, y, w, h], 0x16), (.confirm [b], 0x17)] : List (Instr × Byte)),
      (s.ctl.linkState ≠ .active → exec q.1 s = .next (s.replies q.2 [0x11]))
      ∧ (s.ctl.linkState = .active → s.ctl.straps.role = .sensor → exec q.1 s = .next (s.replies q.2 [0x12]))
      ∧ (s.HoldsTables → (b = 0 ∨ 16 < b.toNat) → exec q.1 s = .next (s.replies q.2 [0x15]))
      ∧ (∀ sf, s.HoldsTables → b = surfByte sf → (s.surface sf).state = .free →
          exec q.1 s = .next (s.replies q.2 [0x15]))
      ∧ (∀ sf, s.HoldsTables → b = surfByte sf → (s.surface sf).state ≠ .free → (s.surface sf).owner ≠ some s.own →
          exec q.1 s = .next (s.replies q.2 [0x17])))
    ∧ (∀ tag a1 a0 v : Byte,
      (s.ctl.linkState ≠ .active → exec (.create [tag, a1, a0, x, y, w, h, v]) s = .next (s.replies 0x10 [0x11]))
      ∧ (s.ctl.linkState = .active → s.ctl.straps.role = .sensor →
          exec (.create [tag, a1, a0, x, y, w, h, v]) s = .next (s.replies 0x10 [0x12]))
      ∧ (s.HoldsTables → (w = 0 ∨ h = 0 ∨ 24 ≤ x.toNat ∨ 32 ≤ y.toNat) →
          exec (.create [tag, a1, a0, x, y, w, h, v]) s = .next (s.replies 0x10 [0x13])))

/-- Check 6 of R21 for RESIZE of an own surface: mode FULL, and bytes that give no region on the surface's reference grid,
are BAD_ARG, with no other effect (R21, R192). -/
def Claim.ResizeWithoutRegion : Prop :=
  ∀ (sf : Surf) (mode x y w h : Byte) (present : Region) (s : State), s.Runs → s.HoldsTables → s.Owns sf →
    (s.surface sf).region = some present →
    (mode = 0x02 ∨ Claim.GivesNoRegion (refCols (s.surface sf)) present mode x y w h) →
    exec (.resize [surfByte sf, mode, x, y, w, h]) s = .next (s.replies 0x16 [0x13])

/-- RESIZE of an own surface to a rectangle that reaches past its reference grid: STRICT with CLIPPED where that is strict,
else its clip is sent, with the adjust flag set and an empty capture record filled (R21, R22, R183). -/
def Claim.ResizeClips : Prop :=
  ∀ (sf : Surf) (mode x y w h : Byte) (present r : Region) (s : State), s.Runs → s.HoldsTables → s.Owns sf →
    (s.surface sf).region = some present → Claim.ClipsTo (refCols (s.surface sf)) present mode x y w h r →
    (s.port.cfg.strictClipped = true →
      exec (.resize [surfByte sf, mode, x, y, w, h]) s = .next (s.replies 0x16 [0x1F, 0x01]))
    ∧ (s.port.cfg.strictClipped = false → s.Admits .state →
      exec (.resize [surfByte sf, mode, x, y, w, h]) s = .next
        (({ s with
            port := { s.port with
              adjClipped := true
              capture := if s.port.capture = none then some ⟨0x16, some sf, .clipped⟩
                else s.port.capture } }.queuesState (.resize sf r)).replies 0x16 [0x01]))

/-- A surface command of the owner that passes the checks and finds no soft condition enqueues its STATE message, and is
answered QUEUED; nothing in a table changes (R21, R22). -/
def Claim.SurfaceCommandsEnqueue : Prop :=
  ∀ (sf : Surf) (s : State), s.Runs → s.HoldsTables → s.Owns sf → s.Admits .state →
    ((s.surface sf).lock = none →
      exec (.destroy [surfByte sf]) s = .next ((s.queuesState (.destroy sf)).replies 0x11 [0x01]))
    ∧ ((s.surface sf).visible = false →
      exec (.showCmd [surfByte sf]) s = .next ((s.queuesState (.setVisible sf true)).replies 0x12 [0x01]))
    ∧ ((s.surface sf).visible = true →
      exec (.hide [surfByte sf]) s = .next ((s.queuesState (.setVisible sf false)).replies 0x13 [0x01]))
    ∧ (∀ j : Station, sf ∈ s.tables.lists[j] → s.tables.lists[j].head? ≠ some sf →
      exec (.raise [surfByte sf]) s = .next ((s.queuesState (.restack sf .front)).replies 0x14 [0x01]))
    ∧ (∀ j : Station, sf ∈ s.tables.lists[j] → s.tables.lists[j].getLast? ≠ some sf →
      exec (.lower [surfByte sf]) s = .next ((s.queuesState (.restack sf .back)).replies 0x15 [0x01]))
    ∧ (∀ (mode x y w h : Byte) (present r : Region), (s.surface sf).region = some present → mode ≠ 0x02 →
      GivesRegion (refCols (s.surface sf)) present mode x y w h r →
      exec (.resize [surfByte sf, mode, x, y, w, h]) s = .next ((s.queuesState (.resize sf r)).replies 0x16 [0x01]))
    ∧ ((s.surface sf).arriving ≠ none →
      exec (.confirm [surfByte sf]) s = .next ((s.queuesState (.arrived sf)).replies 0x17 [0x01]))

/-- CREATE of a region on the panel grid enqueues its message; one that reaches past the grid is clipped where CLIPPED is
lenient, with its adjust flag and capture, and refused STRICT where it is strict (R21, R22, R183). -/
def Claim.CreateEnqueues : Prop :=
  ∀ (tag a1 a0 x y w h v : Byte) (s : State), s.Runs → s.HoldsTables → s.Admits .state →
    (BytesInGrid 24 x y w h →
      exec (.create [tag, a1, a0, x, y, w, h, v]) s = .next
        ((s.queuesState (.create tag (toHalf a1 a0) ⟨x.toNat, y.toNat, w.toNat, h.toNat⟩ (v != 0))).replies 0x10
          [0x01]))
    ∧ (x.toNat < 24 → y.toNat < 32 → 1 ≤ w.toNat → w.toNat ≤ 63 → 1 ≤ h.toNat → h.toNat ≤ 63 →
      (24 < x.toNat + w.toNat ∨ 32 < y.toNat + h.toNat) →
      (s.port.cfg.strictClipped = true →
        exec (.create [tag, a1, a0, x, y, w, h, v]) s = .next (s.replies 0x10 [0x1F, 0x01]))
      ∧ (s.port.cfg.strictClipped = false →
        exec (.create [tag, a1, a0, x, y, w, h, v]) s = .next
          (({ s with
              port := { s.port with
                adjClipped := true
                capture := if s.port.capture = none then some ⟨0x10, none, .clipped⟩ else s.port.capture } }.queuesState
            (.create tag (toHalf a1 a0)
              ⟨x.toNat, y.toNat, min w.toNat (24 - x.toNat), min h.toNat (32 - y.toNat)⟩ (v != 0))).replies 0x10
            [0x01])))

/-- Surface commands that have nothing to send: DESTROY of a locked surface is LOCKED, CONFIRM of one not arriving is DONE,
and one that finds NO_CHANGE is refused STRICT where that is strict, else DONE with the adjust flag set and an empty
capture record filled (R21, R22, R183). -/
def Obligations.SurfaceCommandsWithoutMessage : Prop :=
  ∀ (sf : Surf) (s : State), s.Runs → s.HoldsTables → s.Owns sf →
    ((s.surface sf).lock ≠ none → exec (.destroy [surfByte sf]) s = .next (s.replies 0x11 [0x16]))
    ∧ ((s.surface sf).arriving = none → exec (.confirm [surfByte sf]) s = .next (s.replies 0x17 [0x00]))
    ∧ (∀ q ∈ ([(Instr.showCmd, 0x12, (s.surface sf).visible = true), (.hide, 0x13, (s.surface sf).visible = false),
        (.raise, 0x14, ∀ j : Station, sf ∈ s.tables.lists[j] → s.tables.lists[j].head? = some sf),
        (.lower, 0x15, ∀ j : Station, sf ∈ s.tables.lists[j] → s.tables.lists[j].getLast? = some sf)] :
        List ((List Byte → Instr) × Byte × Prop)), q.2.2 →
      (s.port.cfg.strictNoChange = true →
        exec (q.1 [surfByte sf]) s = .next (s.replies q.2.1 [0x1F, 0x02]))
      ∧ (s.port.cfg.strictNoChange = false →
        exec (q.1 [surfByte sf]) s = .next
          ({ s with
              port := { s.port with
                adjNoChange := true
                capture := if s.port.capture = none then some ⟨q.2.1, some sf, .noChange⟩
                  else s.port.capture } }.replies q.2.1 [0x00])))

/-! ### Transactions at the local port -/

/-- MOVE whose mode and bytes give a region on the destination's grid, and RETURN, take the next sequence number, count in
the own open count and enqueue a PROPOSE, answered QUEUED with the id; the third own transaction is refused LIMIT (R73,
R74, R75, R77). -/
def Claim.MoveAndReturnEnqueue : Prop :=
  ∀ (sf : Surf) (s : State), s.Runs → s.HoldsTables → (s.surface sf).state ≠ .free → (s.surface sf).lock = none →
    let counts : State := { s with txns := { s.txns with seq := s.txns.seq + 1, ownOpen := s.txns.ownOpen + 1 } }
    let id : TxnId := ⟨s.own, s.txns.seq⟩
    (∀ (t : Target) (mode x y w h ret : Byte) (present r : Region), targetConfigured s.port.cfg t = true →
      (s.surface sf).region = some present → GivesRegion (gridCols t) present mode x y w h r →
      (ret = 0 ∨ (s.surface sf).ret = none ∨ (s.surface sf).state = .parked) →
      (s.txns.ownOpen < 2 → s.Admits .transaction →
        exec (.move [surfByte sf, targetByte t, mode, x, y, w, h, ret]) s = .next
          ((counts.queuesTransaction (.proposeMove id sf ⟨t, r⟩ (ret != 0))).replies 0x20
            [0x01, stationByte s.own, s.txns.seq]))
      ∧ (2 ≤ s.txns.ownOpen →
        exec (.move [surfByte sf, targetByte t, mode, x, y, w, h, ret]) s = .next (s.replies 0x20 [0x19])))
    ∧ ((s.surface sf).ret ≠ none → s.txns.ownOpen < 2 → s.Admits .transaction →
      exec (.returnCmd [surfByte sf]) s = .next
        ((counts.queuesTransaction (.proposeReturn id sf)).replies 0x21 [0x01, stationByte s.own, s.txns.seq]))
    ∧ ((s.surface sf).ret ≠ none → 2 ≤ s.txns.ownOpen →
      exec (.returnCmd [surfByte sf]) s = .next (s.replies 0x21 [0x19]))
    ∧ ((s.surface sf).ret = none → exec (.returnCmd [surfByte sf]) s = .next (s.replies 0x21 [0x1D]))

/-- Checks 1 to 4 of R75 in their order for MOVE and RETURN, and check 6 for MOVE: a to-target that is not configured, and
bytes that give no region on its grid. A refused command changes nothing but the reply (R75, R192). -/
def Claim.MoveAndReturnChecks : Prop :=
  ∀ (b target mode x y w h ret : Byte) (s : State), s.Runs →
    (∀ q ∈ ([(.move [b, target, mode, x, y, w, h, ret], 0x20), (.returnCmd [b], 0x21)] : List (Instr × Byte)),
      (s.ctl.linkState ≠ .active → exec q.1 s = .next (s.replies q.2 [0x11]))
      ∧ (s.ctl.linkState = .active → s.ctl.straps.role = .sensor → exec q.1 s = .next (s.replies q.2 [0x12]))
      ∧ (s.HoldsTables → (b = 0 ∨ 16 < b.toNat) → exec q.1 s = .next (s.replies q.2 [0x15]))
      ∧ (∀ sf, s.HoldsTables → b = surfByte sf → (s.surface sf).state = .free →
          exec q.1 s = .next (s.replies q.2 [0x15]))
      ∧ (∀ sf, s.HoldsTables → b = surfByte sf → (s.surface sf).state ≠ .free → (s.surface sf).lock ≠ none →
          exec q.1 s = .next (s.replies q.2 [0x16])))
    ∧ (∀ sf, s.HoldsTables → b = surfByte sf → (s.surface sf).state ≠ .free → (s.surface sf).lock = none →
      ((∀ t, target = targetByte t → targetConfigured s.port.cfg t = false) →
        exec (.move [b, target, mode, x, y, w, h, ret]) s = .next (s.replies 0x20 [0x13]))
      ∧ (∀ (t : Target) (present : Region), target = targetByte t → (s.surface sf).region = some present →
          Claim.GivesNoRegion (gridCols t) present mode x y w h →
          exec (.move [b, target, mode, x, y, w, h, ret]) s = .next (s.replies 0x20 [0x13])))

/-- The soft conditions of a MOVE that passes checks 1 to 7 of R75, CLIPPED before RETURN_REPLACED: the first strict one
refuses it STRICT, a lenient CLIPPED before it having set its flag and capture; where none is strict the flags are set, an
empty capture record takes the first, and the PROPOSE goes with the clip and the return flag as given (R73, R76, R183). -/
def Claim.MoveSoftConditions : Prop :=
  ∀ (sf : Surf) (t : Target) (mode x y w h ret : Byte) (present r : Region) (clipped : Bool) (s : State), s.Runs →
    s.HoldsTables → (s.surface sf).state ≠ .free → (s.surface sf).lock = none → targetConfigured s.port.cfg t = true →
    (s.surface sf).region = some present → s.txns.ownOpen < 2 →
    (clipped = true ∧ Claim.ClipsTo (gridCols t) present mode x y w h r
      ∨ clipped = false ∧ GivesRegion (gridCols t) present mode x y w h r) →
    let replaced : Bool := ret != 0 && (s.surface sf).ret != none && (s.surface sf).state != .parked
    let cmd : Instr := .move [surfByte sf, targetByte t, mode, x, y, w, h, ret]
    let first : State := if clipped then Claim.adjusted .clipped 0x20 (some sf) s else s
    let both : State := if replaced then Claim.adjusted .returnReplaced 0x20 (some sf) first else first
    (clipped = true → s.port.cfg.strictClipped = true → exec cmd s = .next (s.replies 0x20 [0x1F, 0x01]))
    ∧ ((clipped = false ∨ s.port.cfg.strictClipped = false) →
      (replaced = true → s.port.cfg.strictReturnReplaced = true →
        exec cmd s = .next (first.replies 0x20 [0x1F, 0x03]))
      ∧ ((replaced = false ∨ s.port.cfg.strictReturnReplaced = false) → s.Admits .transaction →
        exec cmd s = .next
          (({ both with
              txns := { s.txns with seq := s.txns.seq + 1, ownOpen := s.txns.ownOpen + 1 } }.queuesTransaction
            (.proposeMove ⟨s.own, s.txns.seq⟩ sf ⟨t, r⟩ (ret != 0))).replies 0x20 [0x01, stationByte s.own, s.txns.seq])))

/-- CANCEL, ACCEPT and DECLINE are refused NOT_ACTIVE outside ACTIVE, and NOT_PANEL at an ACTIVE SENSOR station, with no other
effect (R83, R90). -/
def Claim.AnswerFirstChecks : Prop :=
  ∀ (o q : Byte) (s : State), s.Runs →
    ∀ c ∈ ([(.cancel [o, q], 0x22), (.accept [o, q], 0x23), (.decline [o, q], 0x24)] : List (Instr × Byte)),
      (s.ctl.linkState ≠ .active → exec c.1 s = .next (s.replies c.2 [0x11]))
      ∧ (s.ctl.linkState = .active → s.ctl.straps.role = .sensor → exec c.1 s = .next (s.replies c.2 [0x12]))

/-- CANCEL of an own transaction whose PROPOSE, of a MOVE or a RETURN, waits unsent anywhere in its queue withdraws it, with
TXN_DONE(CANCELLED) and DONE; of one whose entry is open or whose PROPOSE is in the frame being sent it enqueues a CANCEL
message; of one not counted it is TOO_LATE, and of another originator's BAD_ARG (R90). -/
def Claim.CancelByProgress : Prop :=
  ∀ (q : Byte) (s : State), s.Runs → s.HoldsTables →
    let id : TxnId := ⟨s.own, q⟩
    let proposes (m : Msg) : Prop := (∃ sf p ret, m = .proposeMove id sf p ret) ∨ ∃ sf, m = .proposeReturn id sf
    (∀ sf m before rest, s.entry? id = none → s.pool.transaction = before ++ m :: rest → (∀ u ∈ before, ¬ proposes u) →
      ((∃ p ret, m = .proposeMove id sf p ret) ∨ m = .proposeReturn id sf) →
      exec (.cancel [stationByte s.own, q]) s = .next
        (({ s with
            pool := { s.pool with transaction := before ++ rest }
            txns := { s.txns with ownOpen := s.txns.ownOpen - 1 } }.notify (.txnDone id sf .cancelled)).replies 0x22
          [0x00]))
    ∧ ((s.entry? id ≠ none ∨ ∃ f, s.link.sending = some f ∧ ∃ m ∈ f.msgs, proposes m) →
      (∀ u ∈ s.pool.transaction, ¬ proposes u) → s.Admits .transaction →
      exec (.cancel [stationByte s.own, q]) s = .next ((s.queuesTransaction (.cancel id)).replies 0x22 [0x01]))
    ∧ ((∀ c ∈ s.counted, c.1 ≠ id) → exec (.cancel [stationByte s.own, q]) s = .next (s.replies 0x22 [0x1A]))
    ∧ (∀ o : Byte, o ≠ stationByte s.own → exec (.cancel [o, q]) s = .next (s.replies 0x22 [0x13]))

/-- ACCEPT and DECLINE of a pending offer set its record and enqueue READY, or REFUSE(DECLINED); without a pending offer
they are TOO_LATE (R72, R83). -/
def Claim.OfferAnswers : Prop :=
  ∀ (i : TxnId) (s : State), s.Runs → s.HoldsTables →
    let answered (st : OfferState) (m : Msg) : State :=
      { s with
        txns := { s.txns with
          offers := s.txns.offers.map (fun o : Offer => if o.id = i then { o with state := st } else o) } }.queuesControl m
    ((∃ o ∈ s.txns.offers, o.id = i ∧ o.state = .pending) → s.entry? i ≠ none →
      exec (.accept [stationByte i.orig, i.seq]) s = .next ((answered .accepted (.ready i)).replies 0x23 [0x01])
      ∧ exec (.decline [stationByte i.orig, i.seq]) s
          = .next ((answered .declined (.refuse i (some .declined))).replies 0x24 [0x01]))
    ∧ ((∀ o ∈ s.txns.offers, o.id = i → o.state ≠ .pending) →
      exec (.accept [stationByte i.orig, i.seq]) s = .next (s.replies 0x23 [0x1A])
      ∧ exec (.decline [stationByte i.orig, i.seq]) s = .next (s.replies 0x24 [0x1A]))

/-- RELAY in ACTIVE or RESYNC to another ACTIVE station enqueues the payload with age 0; elsewhere it is NOT_ACTIVE, and to
an absent, not ACTIVE or the own station DEST_ABSENT; a destination above 3 is BAD_ARG. Where the pool is full it is
NO_BUFFER, and the drop is logged and counted (R149, R150, R159, R160). -/
def Claim.RelayIsQueuedOrRefused : Prop :=
  ∀ (k : Station) (payload : List Byte) (s : State), s.Runs → 1 ≤ payload.length → payload.length ≤ 24 →
    let cmd : Instr := .relay (stationByte k :: payload)
    (s.ctl.linkState.present = true → k ≠ s.own → s.peerActive k = true → s.Admits .relay →
      exec cmd s = .next
        ({ s with pool := { s.pool with relay := s.pool.relay ++ [(⟨k, payload, 0⟩ : RelayMsg)] } }.replies 0x30 [0x01]))
    ∧ (s.ctl.linkState.present = false → exec cmd s = .next (s.replies 0x30 [0x11]))
    ∧ (∀ dest : Byte, 3 < dest.toNat →
      exec (.relay (dest :: payload)) s
        = .next (s.replies 0x30 [if s.ctl.linkState.present = true then 0x13 else 0x11]))
    ∧ (s.ctl.linkState.present = true → (k = s.own ∨ s.peerActive k = false) →
      exec cmd s = .next (s.replies 0x30 [0x1E]))
    ∧ (s.ctl.linkState.present = true → k ≠ s.own → s.peerActive k = true → 20 ≤ s.holdingShared →
      ∃ t, exec cmd s = .next ({ s with pool := t }.replies 0x30 [0x18])
        ∧ t.relay = s.pool.relay ∧ t.dropsRelay = min 65535 (s.pool.dropsRelay + 1)
        ∧ (s.pool.dropA = none → t.dropA = some ⟨.relay, .poolFull, 0x40, some k, s.link.cycle⟩)
        ∧ (s.pool.dropA ≠ none → s.pool.dropB = none →
            t.dropA = s.pool.dropA ∧ t.dropB = some ⟨.relay, .poolFull, 0x40, some k, s.link.cycle⟩)
        ∧ (s.pool.dropA ≠ none → s.pool.dropB ≠ none → t.dropA = s.pool.dropA ∧ t.dropB = s.pool.dropB))

/-- The pool has no buffer for a request of a class, and why: the three shared holdings add up to 20, or the class stands at
its limit, limit low while another shared class holds 3 or more, else limit high (R148, R149). -/
def Claim.NoBuffer (s : State) (c : SharedClass) (r : DropReason) : Prop :=
  (r = .poolFull ∧ 20 ≤ s.holdingShared)
    ∨ (r = .classLimit ∧ s.holdingShared < 20
      ∧ ((∃ d, d ≠ c ∧ 3 ≤ s.holding d) ∧ s.port.cfg.limitLow ≤ s.holding c
        ∨ (∀ d, d ≠ c → s.holding d < 3) ∧ s.port.cfg.limitHigh ≤ s.holding c))

/-- A surface command whose message finds no buffer is refused NO_BUFFER and enqueues nothing; the drop is recorded
and counted, and the adjust flag and capture of a lenient CLIPPED stay set (R22, R149, R159, R160). -/
def Claim.SurfaceNoBuffer : Prop :=
  ∀ (r : DropReason) (s : State), s.Runs → s.HoldsTables → Claim.NoBuffer s .state r →
    let refused (c : Instr) (command kind : Byte) (u : State) : Prop :=
      exec c s = .next
        ({ u with pool := Claim.afterDrop s.pool ⟨.state, r, kind, none, s.link.cycle⟩ }.replies command [0x18])
    (∀ sf, s.Owns sf →
      ((s.surface sf).lock = none → refused (.destroy [surfByte sf]) 0x11 0x02 s)
      ∧ ((s.surface sf).visible = false → refused (.showCmd [surfByte sf]) 0x12 0x03 s)
      ∧ ((s.surface sf).visible = true → refused (.hide [surfByte sf]) 0x13 0x03 s)
      ∧ (∀ j : Station, sf ∈ s.tables.lists[j] → s.tables.lists[j].head? ≠ some sf →
        refused (.raise [surfByte sf]) 0x14 0x04 s)
      ∧ (∀ j : Station, sf ∈ s.tables.lists[j] → s.tables.lists[j].getLast? ≠ some sf →
        refused (.lower [surfByte sf]) 0x15 0x04 s)
      ∧ (∀ (mode x y w h : Byte) (present q : Region), (s.surface sf).region = some present → mode ≠ 0x02 →
        (GivesRegion (refCols (s.surface sf)) present mode x y w h q →
          refused (.resize [surfByte sf, mode, x, y, w, h]) 0x16 0x05 s)
        ∧ (Claim.ClipsTo (refCols (s.surface sf)) present mode x y w h q → s.port.cfg.strictClipped = false →
          refused (.resize [surfByte sf, mode, x, y, w, h]) 0x16 0x05 (Claim.adjusted .clipped 0x16 (some sf) s)))
      ∧ ((s.surface sf).arriving ≠ none → refused (.confirm [surfByte sf]) 0x17 0x06 s))
    ∧ (∀ (tag a1 a0 x y w h v : Byte) (present q : Region),
      (BytesInGrid 24 x y w h → refused (.create [tag, a1, a0, x, y, w, h, v]) 0x10 0x01 s)
      ∧ (Claim.ClipsTo 24 present 0x00 x y w h q → s.port.cfg.strictClipped = false →
        refused (.create [tag, a1, a0, x, y, w, h, v]) 0x10 0x01 (Claim.adjusted .clipped 0x10 none s)))

/-- MOVE, RETURN and CANCEL whose message finds no buffer: no sequence number is taken and nothing is enqueued; what a MOVE
set for a lenient CLIPPED or RETURN_REPLACED stays set (R75, R76, R90, R149, R159, R160). -/
def Claim.TransactionNoBuffer : Prop :=
  ∀ (r : DropReason) (s : State), s.Runs → s.HoldsTables → Claim.NoBuffer s .transaction r →
    let refused (c : Instr) (command kind : Byte) (u : State) : Prop :=
      exec c s = .next
        ({ u with pool := Claim.afterDrop s.pool ⟨.transaction, r, kind, none, s.link.cycle⟩ }.replies command [0x18])
    (∀ sf, (s.surface sf).state ≠ .free → (s.surface sf).lock = none → s.txns.ownOpen < 2 →
      ((s.surface sf).ret ≠ none → refused (.returnCmd [surfByte sf]) 0x21 0x10 s)
      ∧ (∀ (t : Target) (mode x y w h ret : Byte) (present q : Region) (clipped : Bool),
        targetConfigured s.port.cfg t = true → (s.surface sf).region = some present →
        (clipped = true ∧ s.port.cfg.strictClipped = false ∧ Claim.ClipsTo (gridCols t) present mode x y w h q
          ∨ clipped = false ∧ GivesRegion (gridCols t) present mode x y w h q) →
        let replaced : Bool := ret != 0 && (s.surface sf).ret != none && (s.surface sf).state != .parked
        (replaced = true → s.port.cfg.strictReturnReplaced = false) →
        let first : State := if clipped then Claim.adjusted .clipped 0x20 (some sf) s else s
        refused (.move [surfByte sf, targetByte t, mode, x, y, w, h, ret]) 0x20 0x10
          (if replaced then Claim.adjusted .returnReplaced 0x20 (some sf) first else first)))
    ∧ (∀ q : Byte,
      let proposes (m : Msg) : Prop :=
        (∃ sf p ret, m = .proposeMove ⟨s.own, q⟩ sf p ret) ∨ ∃ sf, m = .proposeReturn ⟨s.own, q⟩ sf
      (s.entry? ⟨s.own, q⟩ ≠ none ∨ ∃ f, s.link.sending = some f ∧ ∃ m ∈ f.msgs, proposes m) →
      (∀ u ∈ s.pool.transaction, ¬ proposes u) →
      refused (.cancel [stationByte s.own, q]) 0x22 0x11 s)

/-- RELAY that finds no buffer: nothing is enqueued, and the drop is recorded with its destination and counted (R149, R150,
R159, R160). -/
def Claim.RelayNoBuffer : Prop :=
  ∀ (r : DropReason) (k : Station) (payload : List Byte) (s : State), s.Runs → s.ctl.linkState.present = true →
    Claim.NoBuffer s .relay r → k ≠ s.own → s.peerActive k = true → 1 ≤ payload.length → payload.length ≤ 24 →
    exec (.relay (stationByte k :: payload)) s = .next
      ({ s with pool := Claim.afterDrop s.pool ⟨.relay, r, 0x40, some k, s.link.cycle⟩ }.replies 0x30 [0x18])

/-! ### BLANK and WAKE -/

/-- BLANK by role and panel state (R164). -/
def Claim.BlankByPanelState : Prop :=
  ∀ s : State, s.Runs →
    (s.ctl.straps.role = .sensor → exec (.blank []) s = .next (s.replies 0x31 [0x12]))
    ∧ (s.ctl.straps.role = .panel →
      (s.panel.state = .lit → s.panelIdle = true →
        exec (.blank []) s = .next
          ({ s with
              panel := { s.panel with
                state := .blankPending, blankWait := s.port.cfg.blankIdleLimit, darkMark := true } }.replies 0x31
            [0x00]))
      ∧ (s.panel.state = .lit → s.panelIdle = false → s.port.cfg.blankIdleLimit = 0 →
        exec (.blank []) s = .next (s.replies 0x31 [0x1C]))
      ∧ (s.panel.state = .lit → s.panelIdle = false → s.port.cfg.blankIdleLimit ≠ 0 →
        exec (.blank []) s = .next
          ({ s with
              panel := { s.panel with
                state := .blankPending, blankWait := s.port.cfg.blankIdleLimit, darkMark := false } }.replies 0x31
            [0x01]))
      ∧ (s.panel.state = .blankPending → exec (.blank []) s = .next (s.replies 0x31 [0x01]))
      ∧ (s.panel.state = .dark → exec (.blank []) s = .next (s.replies 0x31 [0x00]))
      ∧ (s.panel.state = .waking → exec (.blank []) s = .next (s.replies 0x31 [0x1B])))

/-- WAKE by role and panel state (R167). -/
def Claim.WakeByPanelState : Prop :=
  ∀ s : State, s.Runs →
    (s.ctl.straps.role = .sensor → exec (.wake []) s = .next (s.replies 0x32 [0x12]))
    ∧ (s.ctl.straps.role = .panel →
      (s.panel.state = .dark →
        exec (.wake []) s = .next
          ({ s with panel := { s.panel with state := .waking, wakeCount := s.port.cfg.wakeTime } }.replies 0x32 [0x01]))
      ∧ (s.panel.state = .blankPending →
        exec (.wake []) s = .next
          (({ s with panel := { s.panel with state := .lit, blankWait := 0, darkMark := false } }.notify
            (.panel .blankCancelled .lit)).replies 0x32 [0x00]))
      ∧ ((s.panel.state = .lit ∨ s.panel.state = .waking) →
        exec (.wake []) s = .next (s.replies 0x32 [0x00])))

/-! ### Clears and reads -/

/-- CLEAR_ADJUST clears the three adjust flags and empties the capture record, and nothing else, in every link state and
either role; a soft condition found after it sets its flag and is captured again (R185). -/
def Obligations.ClearAdjustClears : Prop :=
  ∀ s : State, s.Runs →
    ∃ t, exec (.clearAdjust []) s = .next (t.replies 0x33 [0x00])
      ∧ t = { s with
          port := { s.port with
            adjClipped := false, adjNoChange := false, adjReturnReplaced := false, capture := none } }
      ∧ ∀ (c : SoftCondition) (code : Byte) (sf : Option Surf) (f : State → State × Result), t.isStrict c = false →
          ∃ u, t.soft true c code sf f = f u ∧ u.port.capture = some ⟨code, sf, c⟩
            ∧ u.port.adjClipped = (c == .clipped) ∧ u.port.adjNoChange = (c == .noChange)
            ∧ u.port.adjReturnReplaced = (c == .returnReplaced)

/-- READ_LINK_LOG returns both records, each marked where it is empty, and changes no state; CLEAR_LINK_LOG empties both
and sets the later-major count to 0, and touches no other count; an error after it is logged as after a reset (R45). -/
def Obligations.LinkLogReadAndClear : Prop :=
  ∀ s : State, s.Runs →
    (exec .readLinkLog s = .next
      { s with
        port := { s.port with
          access := some ⟨0x06, none, 0x00 ::
            ((match s.link.minor with
              | some r => [1, linkErrorByte r.kind, stationByte r.slot] ++ halfBytes r.cycle
              | none => [0, 0, 0, 0, 0])
            ++ (match s.link.major with
              | some r => [1, linkErrorByte r.kind, stationByte r.slot] ++ halfBytes r.cycle
              | none => [0, 0, 0, 0, 0])
            ++ [natByte s.link.laterMajors])⟩ } })
    ∧ ∃ t, exec (.clearLinkLog []) s = .next (t.replies 0x34 [0x00])
      ∧ t = { s with link := { s.link with minor := none, major := none, laterMajors := 0 } }
      ∧ (∀ kind k, (kind = .length ∨ kind = .frameCheck ∨ kind = .late) →
          t.logError kind k = { t with link := { t.link with minor := some ⟨kind, k, s.link.cycle⟩ } })
      ∧ (∀ kind k, (kind = .clash ∨ kind = .syncLost) →
          t.logError kind k = { t with link := { t.link with major := some ⟨kind, k, s.link.cycle⟩ } })

/-- READ_DROP_LOG returns both records, each marked where it is empty, and the four counters, and empties them in the same
access, in every link state and either role; a drop taken after it fills record A and counts from 0 (R161). -/
def Obligations.DropLogReadEmpties : Prop :=
  ∀ s : State, s.Runs →
    let recordBytes (d : Option DropRecord) : List Byte :=
      match d with
      | some d => [1, classByte d.cls, dropReasonByte d.reason, d.msgKind, optStationByte d.peer] ++ halfBytes d.cycle
      | none => [0, 0, 0, 0, 0, 0, 0]
    let emptied : State :=
      { s with
        pool := { s.pool with
          dropA := none, dropB := none, dropsTransaction := 0, dropsState := 0, dropsRelay := 0, dropsInbound := 0 } }
    exec .readDropLog s = .next
        { emptied with
          port := { s.port with
            access := some ⟨0x05, none, 0x00 ::
              (recordBytes s.pool.dropA ++ recordBytes s.pool.dropB ++ natHalf s.pool.dropsTransaction
                ++ natHalf s.pool.dropsState ++ natHalf s.pool.dropsRelay ++ natHalf s.pool.dropsInbound)⟩ } }
    ∧ ∀ (kind : Byte) (k : Station),
        emptied.drop .relay .relayAged kind (some k) =
          { emptied with
            pool := { emptied.pool with
              dropA := some ⟨.relay, .relayAged, kind, some k, s.link.cycle⟩, dropsRelay := 1 } }

/-- A notice goes in at the back of the queue, and where it holds 16 it is discarded with the overrun flag set; READ_NOTICE
pops the oldest, or gives NONE and changes nothing; INT_N is low while the queue holds one (R186, R187). -/
def Claim.NoticesFirstInFirstOut : Prop :=
  ∀ s : State, s.Runs →
    (∀ n, s.port.notices.length < 16 →
      s.notify n = { s with port := { s.port with notices := s.port.notices ++ [n] } }
        ∧ (s.notify n).intHigh = false)
    ∧ (∀ n, 16 ≤ s.port.notices.length → s.notify n = { s with port := { s.port with overrun := true } })
    ∧ (∀ n rest, s.port.notices = n :: rest →
      ∃ t, exec .readNotice s = .next t
        ∧ t = { s with
            port := { s.port with
              notices := rest, access := some ⟨0x02, none, 0x00 :: n.kindByte :: natByte n.body.length :: n.body⟩ } }
        ∧ t.intHigh = rest.isEmpty)
    ∧ (s.port.notices = [] →
      exec .readNotice s = .next { s with port := { s.port with access := some ⟨0x02, none, [0x00, 0x00, 0x00]⟩ } }
        ∧ s.intHigh = true)

/-- READ_STATUS returns a record of 79 bytes with the overrun flag as it was, and clears that flag alone; the model's own
count of free values rises (R188, log entry 14). -/
def Claim.StatusClearsOverrun : Prop :=
  ∀ s : State, s.Runs →
    ∃ record : List Byte,
      exec .readStatus s = .next
          { s with
            port := { s.port with overrun := false, access := some ⟨0x03, none, 0x00 :: record⟩ }
            freeCount := s.freeCount + 1 }
      ∧ record.length = 79
      ∧ record.take 13 = [stationByte s.ctl.straps.station, roleByte s.ctl.straps.role,
          angleKindByte s.ctl.straps.angle, rateByte s.ctl.straps.rate, flagByte s.ctl.straps.auto,
          linkStateByte s.ctl.linkState, optStationByte s.ctl.pace] ++ halfBytes s.link.cycle
          ++ [flagByte s.ctl.leavePending, flagByte s.ctl.joinPending, natByte s.ctl.clashCount,
            natByte s.ctl.syncMissCount]
      ∧ (record.drop 32).take 2 = [natByte s.port.notices.length, flagByte s.port.overrun]
      ∧ (∀ a, s.port.lastAccess = some a → record[41]? = some (completionByte a.completion))
      ∧ (s.ctl.straps.role = .sensor → (record.drop 42).take 2 = [0xFF, 0xFF] ∧ record.drop 73 = List.replicate 6 0xFF)

/-- READ_ENTRY of a surface returns the local copy of the entry and its four z positions, in every link state; a SENSOR
station refuses it NOT_PANEL whatever the id, and a PANEL station an id outside 1..16 BAD_ARG; no state changes but the
reply (R25). -/
def Obligations.ReadEntryReturnsCopy : Prop :=
  ∀ (b : Byte) (s : State), s.Runs →
    let answers (reply : List Byte) : Prop :=
      exec (.readEntry b) s = .next { s with port := { s.port with access := some ⟨0x04, none, reply⟩ } }
    (s.ctl.straps.role = .sensor → answers [0x12])
    ∧ (s.ctl.straps.role = .panel → (b.toNat = 0 ∨ 16 < b.toNat) → answers [0x13])
    ∧ (∀ sf : Surf, s.ctl.straps.role = .panel → b.toNat = sf.val + 1 →
      answers (0x00 :: b ::
        ([entryStateByte (s.surface sf).state] ++ halfBytes (s.surface sf).appTag
          ++ [optStationByte (s.surface sf).owner, optTargetByte (s.surface sf).target]
          ++ optRegionBytes (s.surface sf).region
          ++ [flagByte (s.surface sf).visible, natByte ((s.surface sf).arriving.getD 0),
            flagByte (s.surface sf).implicit]
          ++ optPlacementBytes (s.surface sf).ret ++ optTxnIdBytes (s.surface sf).lock
          ++ [0, 1, 2, 3].map (fun k : Station =>
              if sf ∈ s.tables.lists[k] then natByte ((s.tables.lists[k]).idxOf sf + 1) else 0))))

/-! ### Obligations that join claims of one subject -/

/-- Every command answers a next state and leaves the queue; with no command waiting the part idles. -/
def Obligations.NothingStopsTheBlock : Prop := Claim.EveryCommandAnswersNext ∧ Claim.IdlesOnEmptyQueue

/-- The release of RESET_N. -/
def Obligations.HardReset : Prop := Claim.HardResetValues ∧ Claim.StrapsLatched ∧ Claim.AutoStartOfSensor

/-- RESET_N low: the link is released, INT_N is high, and nothing acts until its release. -/
def Obligations.ResetLow : Prop := Claim.ResetLowHoldsStill ∧ Claim.ResetAssertedReleasesLink

/-- A cycle start and the sample it forms. -/
def Obligations.CycleStartAndSample : Prop := Claim.CycleStartBegins ∧ Claim.OwnSampleOfRead

/-- The freeze at a cycle start. -/
def Obligations.FreezeAtCycleStart : Prop := Claim.FreezeBegins ∧ Claim.FreezeIsCounted

/-- The panel at a cycle start. -/
def Obligations.PanelAtCycleStart : Prop :=
  Claim.BlankAtCycleStart ∧ Claim.WakingCountsDown ∧ Claim.ScanoutListOfCycle ∧ Claim.SpanPartsListed

/-- The panel's count limits as rows of their own, and a pending blank at a tail start. -/
def Obligations.PanelCountLimits : Prop :=
  Claim.WakeCountExpiryLights ∧ Claim.BlankWaitRunsOut ∧ Claim.PendingBlankAtTail

/-- The own frame: its header and its messages. -/
def Obligations.OwnFramePacked : Prop :=
  Claim.PackedFrameHeader ∧ Claim.FixedServicingOrder ∧ Claim.FrameMessagesInThreeParts

/-- Arrivals without a frame. -/
def Obligations.ArrivalsWithoutFrame : Prop :=
  Claim.HaltedHearsNothing ∧ Claim.SilentSlotSettles ∧ Claim.CollectionFailsOnSilence
    ∧ Claim.ThirdFailedAttemptGivesUp

/-- Frames that fail a check: LENGTH, FRAME_CHECK, LATE and CLASH. -/
def Obligations.FailedFrameIsMinor : Prop :=
  Claim.FailedFrameLogsMinor ∧ Claim.ClashThenLateThenHeard ∧ Claim.LateFrameAlignsOrMisses ∧ Claim.ClashFrameIsMajor

/-- The end of an own transmission, in the cycle of its slot and after an alignment. -/
def Obligations.OwnFrameIsHeard : Prop := Claim.OwnFrameSettlesSlot ∧ Claim.OutrunFrameLeavesSlot

/-- Own arrivals that end the station's part on the link. -/
def Obligations.OwnArrivalsThatDetach : Prop := Claim.OwnByeDetaches ∧ Claim.SecondClashDetaches

/-- A heard frame of another station: with its header first, without a dump item where one is due, and BYE. -/
def Obligations.HeardFrameIsHandedOn : Prop :=
  Claim.HeardFrameTakesHeaderFirst ∧ Claim.FrameWithoutDumpItemFails ∧ Claim.ByeFrameLosesSender

/-- STATE messages that name a surface, applied and void; and the stations that apply no message of the tables. -/
def Obligations.StateMessagesHeard : Prop :=
  Claim.OwnerMessagesHeard ∧ Claim.RestackAndResizeHeard ∧ Claim.VoidStateMessages ∧ Claim.OnlyTableHoldersApply

/-- The installation of a dump, verified and failed. -/
def Obligations.VerifiedDumpInstalls : Prop := Claim.VerifiedDumpBecomesTables ∧ Claim.FailedInstallAsksAgain

/-- The commit and its notices. -/
def Obligations.LastReadyCommits : Prop := Claim.LastReadyMovesSurface ∧ Claim.CommitGivesNotices

/-- A PROPOSE heard: accepted, and void. -/
def Obligations.ProposeOpensEntry : Prop := Claim.AcceptedProposeOpens ∧ Claim.VoidProposes

/-- Requests for a copy, the giver of a request cycle, and the two ends of a freeze. -/
def Obligations.RequestsAndFreezeEnds : Prop :=
  Claim.DivergenceMessagesHeard ∧ Claim.RequestCycleTakesGiver ∧ Claim.FreezeLimitEndsFreeze

/-- The silence counters, the listen count, the coldstart count and the integration count at a tail start. -/
def Obligations.TailStartCounts : Prop :=
  Claim.TailCountsSilence ∧ Claim.ListenCountsDown ∧ Claim.ColdstartCountsUp ∧ Claim.IntegrationCountsUp

/-- The link state changes of the count limits. -/
def Obligations.LinkStateCountLimits : Prop :=
  Claim.ListenExpiredStartsColdstart ∧ Claim.ColdstartDoneActivates ∧ Claim.IntegrationCompletes
    ∧ Claim.IntegrationWaitsOrStandsAlone ∧ Claim.SecondSyncMissDetaches ∧ Claim.NoPaceDetaches

/-- The posture changes of the count limits. -/
def Obligations.PostureCountLimits : Prop := Claim.StaleLimitEndsPosture ∧ Claim.DwellMakesPosture

/-- The evaluation of a tail start: one primary, and the monitors. -/
def Obligations.PostureStepOfTail : Prop := Claim.PostureStepOfPrimary ∧ Claim.MonitorsOfTail

/-- The transaction table's count limits. -/
def Obligations.TransactionCountLimits : Prop := Claim.DeadlineRemovesExpired ∧ Claim.OfferExpiryRefuses

/-- The cycle close outside the re-home pass, and the sensor read it begins. -/
def Obligations.CycleCloseAndSensorRead : Prop := Claim.CycleCloseWithoutPass ∧ Claim.SensorReadCompletes

/-- The arrival countdown and its timeout. -/
def Obligations.ArrivalsCountedAndTimedOut : Prop := Claim.ArrivalCountdown ∧ Claim.ArrivalTimeoutParks

/-- The two moves of the re-home pass. -/
def Obligations.RehomePassMoves : Prop := Claim.EvacuationMovesOrParks ∧ Claim.RestoreBringsBack

/-- The surface commands that send a message. -/
def Obligations.SurfaceCommandsSend : Prop :=
  Claim.SurfaceCommandsEnqueue ∧ Claim.CreateEnqueues ∧ Claim.ResizeClips

/-- The checks of the surface commands. -/
def Obligations.SurfaceCommandChecks : Prop := Claim.FirstSurfaceChecks ∧ Claim.ResizeWithoutRegion

/-- MOVE and RETURN: their checks, the soft conditions of MOVE, and the PROPOSE. -/
def Obligations.MoveAndReturnPropose : Prop :=
  Claim.MoveAndReturnEnqueue ∧ Claim.MoveAndReturnChecks ∧ Claim.MoveSoftConditions

/-- SET_CONFIG of every item. -/
def Obligations.SetConfigSetsOneItem : Prop := Claim.SetConfigOfPairRuleAndMask ∧ Claim.SetConfigOfNumbers

/-- The notice queue, its line and the status record. -/
def Obligations.NoticesAndStatus : Prop := Claim.NoticesFirstInFirstOut ∧ Claim.StatusClearsOverrun

/-- The form of an access and its end. -/
def Obligations.AccessForms : Prop :=
  Claim.UnassignedKindsRefused ∧ Claim.WrongLengthRefused ∧ Claim.AccessEndRecords ∧ Claim.RequestBytesMakeAccess
    ∧ Claim.MisoGivesReplyThenZeros

/-- CANCEL, ACCEPT and DECLINE. -/
def Obligations.CancelAcceptDecline : Prop :=
  Claim.AnswerFirstChecks ∧ Claim.CancelByProgress ∧ Claim.OfferAnswers

/-- RELAY, and every command whose message finds no buffer. -/
def Obligations.RelayCommand : Prop :=
  Claim.RelayIsQueuedOrRefused ∧ Claim.SurfaceNoBuffer ∧ Claim.TransactionNoBuffer ∧ Claim.RelayNoBuffer

/-- BLANK and WAKE. -/
def Obligations.BlankAndWake : Prop := Claim.BlankByPanelState ∧ Claim.WakeByPanelState

/-! ### Invariants that every step keeps -/

/-- At most 16 notices; at most 20 shared buffers, and only CONTROL messages in the CONTROL queue (R145, R149, R186). -/
def Obligations.QueuesStayWithinBounds : Prop := StepKeeps State.NoticesFit ∧ StepKeeps State.SharedFit

/-- The configuration is locked on the link, and the pace station is the lowest that qualifies (R47, R55, R180). -/
def Obligations.LinkStaysConsistent : Prop := StepKeeps State.LockedOnLink ∧ StepKeeps State.PaceIsLowest

/-- The degraded flag means three misses, the freeze flag means a freeze on the link, and the configuration items stay in
their ranges (R132, R136, R138, R174, R175, R180). -/
def Obligations.FlagsAndItemsStayLegal : Prop :=
  StepKeeps State.DegradedAtThree ∧ StepKeeps State.FreezeFlagMeans ∧ StepKeeps State.ConfigFits

/-- Every invariant holds right after reset; and, of any predicate, that one which every step keeps is carried along a run
of any length. -/
def Obligations.InvariantsHoldFromReset : Prop :=
  (State.reset.NoticesFit ∧ State.reset.SharedFit ∧ State.reset.LockedOnLink ∧ State.reset.PaceIsLowest
    ∧ State.reset.DegradedAtThree ∧ State.reset.FreezeFlagMeans ∧ State.reset.ConfigFits)
  ∧ ∀ (p : State → Prop) (s t : State), StepKeeps p → p s → Reaches s t → p t
end

