-- ==== Sys2Proof/Laws/State.lean ====
section
/-! SUPPORT. One lemma per field per update: what an update that writes one block leaves of the others. -/

namespace Sys2Proof.Machine

variable (s : State)

@[simp] theorem State.setSurface_link (sf : Surf) (e : Entry) : (s.setSurface sf e).link = s.link := rfl
@[simp] theorem State.setSurface_ctl (sf : Surf) (e : Entry) : (s.setSurface sf e).ctl = s.ctl := rfl
@[simp] theorem State.setSurface_angle (sf : Surf) (e : Entry) : (s.setSurface sf e).angle = s.angle := rfl
@[simp] theorem State.setSurface_txns (sf : Surf) (e : Entry) : (s.setSurface sf e).txns = s.txns := rfl
@[simp] theorem State.setSurface_div (sf : Surf) (e : Entry) : (s.setSurface sf e).div = s.div := rfl
@[simp] theorem State.setSurface_pool (sf : Surf) (e : Entry) : (s.setSurface sf e).pool = s.pool := rfl
@[simp] theorem State.setSurface_panel (sf : Surf) (e : Entry) : (s.setSurface sf e).panel = s.panel := rfl
@[simp] theorem State.setSurface_port (sf : Surf) (e : Entry) : (s.setSurface sf e).port = s.port := rfl
@[simp] theorem State.setSurface_resetLow (sf : Surf) (e : Entry) : (s.setSurface sf e).resetLow = s.resetLow := rfl
@[simp] theorem State.setSurface_freeCount (sf : Surf) (e : Entry) : (s.setSurface sf e).freeCount = s.freeCount := rfl
@[simp] theorem State.setSurface_rx (sf : Surf) (e : Entry) : (s.setSurface sf e).rx = s.rx := rfl
@[simp] theorem State.setSurface_sensorBus (sf : Surf) (e : Entry) : (s.setSurface sf e).sensorBus = s.sensorBus := rfl
@[simp] theorem State.setSurface_pending (sf : Surf) (e : Entry) : (s.setSurface sf e).pending = s.pending := rfl

@[simp] theorem State.setAccess_link (kind : Byte) (command : Option Byte) (reply : List Byte) : (s.setAccess kind command reply).link = s.link := rfl
@[simp] theorem State.setAccess_ctl (kind : Byte) (command : Option Byte) (reply : List Byte) : (s.setAccess kind command reply).ctl = s.ctl := rfl
@[simp] theorem State.setAccess_angle (kind : Byte) (command : Option Byte) (reply : List Byte) : (s.setAccess kind command reply).angle = s.angle := rfl
@[simp] theorem State.setAccess_tables (kind : Byte) (command : Option Byte) (reply : List Byte) : (s.setAccess kind command reply).tables = s.tables := rfl
@[simp] theorem State.setAccess_txns (kind : Byte) (command : Option Byte) (reply : List Byte) : (s.setAccess kind command reply).txns = s.txns := rfl
@[simp] theorem State.setAccess_div (kind : Byte) (command : Option Byte) (reply : List Byte) : (s.setAccess kind command reply).div = s.div := rfl
@[simp] theorem State.setAccess_pool (kind : Byte) (command : Option Byte) (reply : List Byte) : (s.setAccess kind command reply).pool = s.pool := rfl
@[simp] theorem State.setAccess_panel (kind : Byte) (command : Option Byte) (reply : List Byte) : (s.setAccess kind command reply).panel = s.panel := rfl
@[simp] theorem State.setAccess_resetLow (kind : Byte) (command : Option Byte) (reply : List Byte) : (s.setAccess kind command reply).resetLow = s.resetLow := rfl
@[simp] theorem State.setAccess_freeCount (kind : Byte) (command : Option Byte) (reply : List Byte) : (s.setAccess kind command reply).freeCount = s.freeCount := rfl
@[simp] theorem State.setAccess_rx (kind : Byte) (command : Option Byte) (reply : List Byte) : (s.setAccess kind command reply).rx = s.rx := rfl
@[simp] theorem State.setAccess_sensorBus (kind : Byte) (command : Option Byte) (reply : List Byte) : (s.setAccess kind command reply).sensorBus = s.sensorBus := rfl
@[simp] theorem State.setAccess_pending (kind : Byte) (command : Option Byte) (reply : List Byte) : (s.setAccess kind command reply).pending = s.pending := rfl

@[simp] theorem State.enqueueControl_link (m : Msg) : (s.enqueueControl m).link = s.link := rfl
@[simp] theorem State.enqueueControl_ctl (m : Msg) : (s.enqueueControl m).ctl = s.ctl := rfl
@[simp] theorem State.enqueueControl_angle (m : Msg) : (s.enqueueControl m).angle = s.angle := rfl
@[simp] theorem State.enqueueControl_tables (m : Msg) : (s.enqueueControl m).tables = s.tables := rfl
@[simp] theorem State.enqueueControl_txns (m : Msg) : (s.enqueueControl m).txns = s.txns := rfl
@[simp] theorem State.enqueueControl_div (m : Msg) : (s.enqueueControl m).div = s.div := rfl
@[simp] theorem State.enqueueControl_panel (m : Msg) : (s.enqueueControl m).panel = s.panel := rfl
@[simp] theorem State.enqueueControl_port (m : Msg) : (s.enqueueControl m).port = s.port := rfl
@[simp] theorem State.enqueueControl_resetLow (m : Msg) : (s.enqueueControl m).resetLow = s.resetLow := rfl
@[simp] theorem State.enqueueControl_freeCount (m : Msg) : (s.enqueueControl m).freeCount = s.freeCount := rfl
@[simp] theorem State.enqueueControl_rx (m : Msg) : (s.enqueueControl m).rx = s.rx := rfl
@[simp] theorem State.enqueueControl_sensorBus (m : Msg) : (s.enqueueControl m).sensorBus = s.sensorBus := rfl
@[simp] theorem State.enqueueControl_pending (m : Msg) : (s.enqueueControl m).pending = s.pending := rfl

@[simp] theorem State.adjust_link (c : SoftCondition) (code : Byte) (sf : Option Surf) : (s.adjust c code sf).link = s.link := rfl
@[simp] theorem State.adjust_ctl (c : SoftCondition) (code : Byte) (sf : Option Surf) : (s.adjust c code sf).ctl = s.ctl := rfl
@[simp] theorem State.adjust_angle (c : SoftCondition) (code : Byte) (sf : Option Surf) : (s.adjust c code sf).angle = s.angle := rfl
@[simp] theorem State.adjust_tables (c : SoftCondition) (code : Byte) (sf : Option Surf) : (s.adjust c code sf).tables = s.tables := rfl
@[simp] theorem State.adjust_txns (c : SoftCondition) (code : Byte) (sf : Option Surf) : (s.adjust c code sf).txns = s.txns := rfl
@[simp] theorem State.adjust_div (c : SoftCondition) (code : Byte) (sf : Option Surf) : (s.adjust c code sf).div = s.div := rfl
@[simp] theorem State.adjust_pool (c : SoftCondition) (code : Byte) (sf : Option Surf) : (s.adjust c code sf).pool = s.pool := rfl
@[simp] theorem State.adjust_panel (c : SoftCondition) (code : Byte) (sf : Option Surf) : (s.adjust c code sf).panel = s.panel := rfl
@[simp] theorem State.adjust_resetLow (c : SoftCondition) (code : Byte) (sf : Option Surf) : (s.adjust c code sf).resetLow = s.resetLow := rfl
@[simp] theorem State.adjust_freeCount (c : SoftCondition) (code : Byte) (sf : Option Surf) : (s.adjust c code sf).freeCount = s.freeCount := rfl
@[simp] theorem State.adjust_rx (c : SoftCondition) (code : Byte) (sf : Option Surf) : (s.adjust c code sf).rx = s.rx := rfl
@[simp] theorem State.adjust_sensorBus (c : SoftCondition) (code : Byte) (sf : Option Surf) : (s.adjust c code sf).sensorBus = s.sensorBus := rfl
@[simp] theorem State.adjust_pending (c : SoftCondition) (code : Byte) (sf : Option Surf) : (s.adjust c code sf).pending = s.pending := rfl

@[simp] theorem State.endFreeze_link : (s.endFreeze).link = s.link := rfl
@[simp] theorem State.endFreeze_ctl : (s.endFreeze).ctl = s.ctl := rfl
@[simp] theorem State.endFreeze_angle : (s.endFreeze).angle = s.angle := rfl
@[simp] theorem State.endFreeze_tables : (s.endFreeze).tables = s.tables := rfl
@[simp] theorem State.endFreeze_txns : (s.endFreeze).txns = s.txns := rfl
@[simp] theorem State.endFreeze_pool : (s.endFreeze).pool = s.pool := rfl
@[simp] theorem State.endFreeze_panel : (s.endFreeze).panel = s.panel := rfl
@[simp] theorem State.endFreeze_port : (s.endFreeze).port = s.port := rfl
@[simp] theorem State.endFreeze_resetLow : (s.endFreeze).resetLow = s.resetLow := rfl
@[simp] theorem State.endFreeze_freeCount : (s.endFreeze).freeCount = s.freeCount := rfl
@[simp] theorem State.endFreeze_rx : (s.endFreeze).rx = s.rx := rfl
@[simp] theorem State.endFreeze_sensorBus : (s.endFreeze).sensorBus = s.sensorBus := rfl
@[simp] theorem State.endFreeze_pending : (s.endFreeze).pending = s.pending := rfl

@[simp] theorem State.settle_ctl (k : Station) (at' : Int) : (s.settle k at').ctl = s.ctl := rfl
@[simp] theorem State.settle_angle (k : Station) (at' : Int) : (s.settle k at').angle = s.angle := rfl
@[simp] theorem State.settle_tables (k : Station) (at' : Int) : (s.settle k at').tables = s.tables := rfl
@[simp] theorem State.settle_txns (k : Station) (at' : Int) : (s.settle k at').txns = s.txns := rfl
@[simp] theorem State.settle_div (k : Station) (at' : Int) : (s.settle k at').div = s.div := rfl
@[simp] theorem State.settle_pool (k : Station) (at' : Int) : (s.settle k at').pool = s.pool := rfl
@[simp] theorem State.settle_panel (k : Station) (at' : Int) : (s.settle k at').panel = s.panel := rfl
@[simp] theorem State.settle_port (k : Station) (at' : Int) : (s.settle k at').port = s.port := rfl
@[simp] theorem State.settle_resetLow (k : Station) (at' : Int) : (s.settle k at').resetLow = s.resetLow := rfl
@[simp] theorem State.settle_freeCount (k : Station) (at' : Int) : (s.settle k at').freeCount = s.freeCount := rfl
@[simp] theorem State.settle_rx (k : Station) (at' : Int) : (s.settle k at').rx = s.rx := rfl
@[simp] theorem State.settle_sensorBus (k : Station) (at' : Int) : (s.settle k at').sensorBus = s.sensorBus := rfl
@[simp] theorem State.settle_pending (k : Station) (at' : Int) : (s.settle k at').pending = s.pending := rfl

@[simp] theorem State.align_ctl (offset : Int) : (s.align offset).ctl = s.ctl := rfl
@[simp] theorem State.align_angle (offset : Int) : (s.align offset).angle = s.angle := rfl
@[simp] theorem State.align_tables (offset : Int) : (s.align offset).tables = s.tables := rfl
@[simp] theorem State.align_txns (offset : Int) : (s.align offset).txns = s.txns := rfl
@[simp] theorem State.align_div (offset : Int) : (s.align offset).div = s.div := rfl
@[simp] theorem State.align_pool (offset : Int) : (s.align offset).pool = s.pool := rfl
@[simp] theorem State.align_panel (offset : Int) : (s.align offset).panel = s.panel := rfl
@[simp] theorem State.align_port (offset : Int) : (s.align offset).port = s.port := rfl
@[simp] theorem State.align_resetLow (offset : Int) : (s.align offset).resetLow = s.resetLow := rfl
@[simp] theorem State.align_freeCount (offset : Int) : (s.align offset).freeCount = s.freeCount := rfl
@[simp] theorem State.align_rx (offset : Int) : (s.align offset).rx = s.rx := rfl
@[simp] theorem State.align_sensorBus (offset : Int) : (s.align offset).sensorBus = s.sensorBus := rfl
@[simp] theorem State.align_pending (offset : Int) : (s.align offset).pending = s.pending := rfl

@[simp] theorem State.markHeard_ctl (k : Station) : (s.markHeard k).ctl = s.ctl := rfl
@[simp] theorem State.markHeard_angle (k : Station) : (s.markHeard k).angle = s.angle := rfl
@[simp] theorem State.markHeard_tables (k : Station) : (s.markHeard k).tables = s.tables := rfl
@[simp] theorem State.markHeard_txns (k : Station) : (s.markHeard k).txns = s.txns := rfl
@[simp] theorem State.markHeard_div (k : Station) : (s.markHeard k).div = s.div := rfl
@[simp] theorem State.markHeard_pool (k : Station) : (s.markHeard k).pool = s.pool := rfl
@[simp] theorem State.markHeard_panel (k : Station) : (s.markHeard k).panel = s.panel := rfl
@[simp] theorem State.markHeard_port (k : Station) : (s.markHeard k).port = s.port := rfl
@[simp] theorem State.markHeard_resetLow (k : Station) : (s.markHeard k).resetLow = s.resetLow := rfl
@[simp] theorem State.markHeard_freeCount (k : Station) : (s.markHeard k).freeCount = s.freeCount := rfl
@[simp] theorem State.markHeard_rx (k : Station) : (s.markHeard k).rx = s.rx := rfl
@[simp] theorem State.markHeard_sensorBus (k : Station) : (s.markHeard k).sensorBus = s.sensorBus := rfl
@[simp] theorem State.markHeard_pending (k : Station) : (s.markHeard k).pending = s.pending := rfl

@[simp] theorem State.markSyncMiss_link (k : Station) : (s.markSyncMiss k).link = s.link := rfl
@[simp] theorem State.markSyncMiss_angle (k : Station) : (s.markSyncMiss k).angle = s.angle := rfl
@[simp] theorem State.markSyncMiss_tables (k : Station) : (s.markSyncMiss k).tables = s.tables := rfl
@[simp] theorem State.markSyncMiss_txns (k : Station) : (s.markSyncMiss k).txns = s.txns := rfl
@[simp] theorem State.markSyncMiss_div (k : Station) : (s.markSyncMiss k).div = s.div := rfl
@[simp] theorem State.markSyncMiss_pool (k : Station) : (s.markSyncMiss k).pool = s.pool := rfl
@[simp] theorem State.markSyncMiss_panel (k : Station) : (s.markSyncMiss k).panel = s.panel := rfl
@[simp] theorem State.markSyncMiss_port (k : Station) : (s.markSyncMiss k).port = s.port := rfl
@[simp] theorem State.markSyncMiss_resetLow (k : Station) : (s.markSyncMiss k).resetLow = s.resetLow := rfl
@[simp] theorem State.markSyncMiss_freeCount (k : Station) : (s.markSyncMiss k).freeCount = s.freeCount := rfl
@[simp] theorem State.markSyncMiss_rx (k : Station) : (s.markSyncMiss k).rx = s.rx := rfl
@[simp] theorem State.markSyncMiss_sensorBus (k : Station) : (s.markSyncMiss k).sensorBus = s.sensorBus := rfl
@[simp] theorem State.markSyncMiss_pending (k : Station) : (s.markSyncMiss k).pending = s.pending := rfl

@[simp] theorem State.stopSending_ctl : s.stopSending.ctl = s.ctl := rfl
@[simp] theorem State.stopSending_angle : s.stopSending.angle = s.angle := rfl
@[simp] theorem State.stopSending_tables : s.stopSending.tables = s.tables := rfl
@[simp] theorem State.stopSending_txns : s.stopSending.txns = s.txns := rfl
@[simp] theorem State.stopSending_div : s.stopSending.div = s.div := rfl
@[simp] theorem State.stopSending_pool : s.stopSending.pool = s.pool := rfl
@[simp] theorem State.stopSending_panel : s.stopSending.panel = s.panel := rfl
@[simp] theorem State.stopSending_port : s.stopSending.port = s.port := rfl
@[simp] theorem State.stopSending_resetLow : s.stopSending.resetLow = s.resetLow := rfl
@[simp] theorem State.stopSending_freeCount : s.stopSending.freeCount = s.freeCount := rfl
@[simp] theorem State.stopSending_rx : s.stopSending.rx = s.rx := rfl
@[simp] theorem State.stopSending_sensorBus : s.stopSending.sensorBus = s.sensorBus := rfl
@[simp] theorem State.stopSending_pending : s.stopSending.pending = s.pending := rfl
@[simp] theorem State.stopSending_sending : s.stopSending.link.sending = none := rfl

@[simp] theorem State.endSending_ctl (f : OwnFrame) : (s.endSending f).ctl = s.ctl := rfl
@[simp] theorem State.endSending_angle (f : OwnFrame) : (s.endSending f).angle = s.angle := rfl
@[simp] theorem State.endSending_tables (f : OwnFrame) : (s.endSending f).tables = s.tables := rfl
@[simp] theorem State.endSending_txns (f : OwnFrame) : (s.endSending f).txns = s.txns := rfl
@[simp] theorem State.endSending_div (f : OwnFrame) : (s.endSending f).div = s.div := rfl
@[simp] theorem State.endSending_pool (f : OwnFrame) : (s.endSending f).pool = s.pool := rfl
@[simp] theorem State.endSending_panel (f : OwnFrame) : (s.endSending f).panel = s.panel := rfl
@[simp] theorem State.endSending_port (f : OwnFrame) : (s.endSending f).port = s.port := rfl
@[simp] theorem State.endSending_resetLow (f : OwnFrame) : (s.endSending f).resetLow = s.resetLow := rfl
@[simp] theorem State.endSending_freeCount (f : OwnFrame) : (s.endSending f).freeCount = s.freeCount := rfl
@[simp] theorem State.endSending_sensorBus (f : OwnFrame) : (s.endSending f).sensorBus = s.sensorBus := rfl
@[simp] theorem State.endSending_pending (f : OwnFrame) : (s.endSending f).pending = s.pending := rfl
@[simp] theorem State.endSending_sending (f : OwnFrame) : (s.endSending f).link.sending = none := by
  unfold State.endSending; dsimp only; split <;> rfl

@[simp] theorem State.send_ctl (ms : List Msg) : (s.send ms).ctl = s.ctl := rfl
@[simp] theorem State.send_angle (ms : List Msg) : (s.send ms).angle = s.angle := rfl
@[simp] theorem State.send_tables (ms : List Msg) : (s.send ms).tables = s.tables := rfl
@[simp] theorem State.send_txns (ms : List Msg) : (s.send ms).txns = s.txns := rfl
@[simp] theorem State.send_div (ms : List Msg) : (s.send ms).div = s.div := rfl
@[simp] theorem State.send_pool (ms : List Msg) : (s.send ms).pool = s.pool := rfl
@[simp] theorem State.send_panel (ms : List Msg) : (s.send ms).panel = s.panel := rfl
@[simp] theorem State.send_port (ms : List Msg) : (s.send ms).port = s.port := rfl
@[simp] theorem State.send_resetLow (ms : List Msg) : (s.send ms).resetLow = s.resetLow := rfl
@[simp] theorem State.send_freeCount (ms : List Msg) : (s.send ms).freeCount = s.freeCount := rfl
@[simp] theorem State.send_rx (ms : List Msg) : (s.send ms).rx = s.rx := rfl
@[simp] theorem State.send_sensorBus (ms : List Msg) : (s.send ms).sensorBus = s.sensorBus := rfl
@[simp] theorem State.send_pending (ms : List Msg) : (s.send ms).pending = s.pending := rfl

@[simp] theorem State.formSample_link : (s.formSample).link = s.link := rfl
@[simp] theorem State.formSample_ctl : (s.formSample).ctl = s.ctl := rfl
@[simp] theorem State.formSample_tables : (s.formSample).tables = s.tables := rfl
@[simp] theorem State.formSample_txns : (s.formSample).txns = s.txns := rfl
@[simp] theorem State.formSample_div : (s.formSample).div = s.div := rfl
@[simp] theorem State.formSample_pool : (s.formSample).pool = s.pool := rfl
@[simp] theorem State.formSample_panel : (s.formSample).panel = s.panel := rfl
@[simp] theorem State.formSample_port : (s.formSample).port = s.port := rfl
@[simp] theorem State.formSample_resetLow : (s.formSample).resetLow = s.resetLow := rfl
@[simp] theorem State.formSample_freeCount : (s.formSample).freeCount = s.freeCount := rfl
@[simp] theorem State.formSample_rx : (s.formSample).rx = s.rx := rfl
@[simp] theorem State.formSample_pending : (s.formSample).pending = s.pending := rfl

@[simp] theorem State.formDigest_link : (s.formDigest).link = s.link := rfl
@[simp] theorem State.formDigest_ctl : (s.formDigest).ctl = s.ctl := rfl
@[simp] theorem State.formDigest_angle : (s.formDigest).angle = s.angle := rfl
@[simp] theorem State.formDigest_tables : (s.formDigest).tables = s.tables := rfl
@[simp] theorem State.formDigest_txns : (s.formDigest).txns = s.txns := rfl
@[simp] theorem State.formDigest_pool : (s.formDigest).pool = s.pool := rfl
@[simp] theorem State.formDigest_panel : (s.formDigest).panel = s.panel := rfl
@[simp] theorem State.formDigest_port : (s.formDigest).port = s.port := rfl
@[simp] theorem State.formDigest_resetLow : (s.formDigest).resetLow = s.resetLow := rfl
@[simp] theorem State.formDigest_freeCount : (s.formDigest).freeCount = s.freeCount := rfl
@[simp] theorem State.formDigest_rx : (s.formDigest).rx = s.rx := rfl
@[simp] theorem State.formDigest_sensorBus : (s.formDigest).sensorBus = s.sensorBus := rfl
@[simp] theorem State.formDigest_pending : (s.formDigest).pending = s.pending := rfl

@[simp] theorem State.readRelayHold_link : (s.readRelayHold).link = s.link := rfl
@[simp] theorem State.readRelayHold_ctl : (s.readRelayHold).ctl = s.ctl := rfl
@[simp] theorem State.readRelayHold_angle : (s.readRelayHold).angle = s.angle := rfl
@[simp] theorem State.readRelayHold_tables : (s.readRelayHold).tables = s.tables := rfl
@[simp] theorem State.readRelayHold_txns : (s.readRelayHold).txns = s.txns := rfl
@[simp] theorem State.readRelayHold_div : (s.readRelayHold).div = s.div := rfl
@[simp] theorem State.readRelayHold_panel : (s.readRelayHold).panel = s.panel := rfl
@[simp] theorem State.readRelayHold_port : (s.readRelayHold).port = s.port := rfl
@[simp] theorem State.readRelayHold_resetLow : (s.readRelayHold).resetLow = s.resetLow := rfl
@[simp] theorem State.readRelayHold_freeCount : (s.readRelayHold).freeCount = s.freeCount := rfl
@[simp] theorem State.readRelayHold_rx : (s.readRelayHold).rx = s.rx := rfl
@[simp] theorem State.readRelayHold_sensorBus : (s.readRelayHold).sensorBus = s.sensorBus := rfl
@[simp] theorem State.readRelayHold_pending : (s.readRelayHold).pending = s.pending := rfl

@[simp] theorem State.beginRead_link : (s.beginRead).link = s.link := rfl
@[simp] theorem State.beginRead_ctl : (s.beginRead).ctl = s.ctl := rfl
@[simp] theorem State.beginRead_tables : (s.beginRead).tables = s.tables := rfl
@[simp] theorem State.beginRead_txns : (s.beginRead).txns = s.txns := rfl
@[simp] theorem State.beginRead_div : (s.beginRead).div = s.div := rfl
@[simp] theorem State.beginRead_pool : (s.beginRead).pool = s.pool := rfl
@[simp] theorem State.beginRead_panel : (s.beginRead).panel = s.panel := rfl
@[simp] theorem State.beginRead_port : (s.beginRead).port = s.port := rfl
@[simp] theorem State.beginRead_resetLow : (s.beginRead).resetLow = s.resetLow := rfl
@[simp] theorem State.beginRead_freeCount : (s.beginRead).freeCount = s.freeCount := rfl
@[simp] theorem State.beginRead_rx : (s.beginRead).rx = s.rx := rfl
@[simp] theorem State.beginRead_sensorBus : (s.beginRead).sensorBus = s.sensorBus := rfl
@[simp] theorem State.beginRead_pending : (s.beginRead).pending = s.pending := rfl

@[simp] theorem State.emptySamples_link : (s.emptySamples).link = s.link := rfl
@[simp] theorem State.emptySamples_ctl : (s.emptySamples).ctl = s.ctl := rfl
@[simp] theorem State.emptySamples_tables : (s.emptySamples).tables = s.tables := rfl
@[simp] theorem State.emptySamples_txns : (s.emptySamples).txns = s.txns := rfl
@[simp] theorem State.emptySamples_div : (s.emptySamples).div = s.div := rfl
@[simp] theorem State.emptySamples_pool : (s.emptySamples).pool = s.pool := rfl
@[simp] theorem State.emptySamples_panel : (s.emptySamples).panel = s.panel := rfl
@[simp] theorem State.emptySamples_port : (s.emptySamples).port = s.port := rfl
@[simp] theorem State.emptySamples_resetLow : (s.emptySamples).resetLow = s.resetLow := rfl
@[simp] theorem State.emptySamples_freeCount : (s.emptySamples).freeCount = s.freeCount := rfl
@[simp] theorem State.emptySamples_rx : (s.emptySamples).rx = s.rx := rfl
@[simp] theorem State.emptySamples_sensorBus : (s.emptySamples).sensorBus = s.sensorBus := rfl
@[simp] theorem State.emptySamples_pending : (s.emptySamples).pending = s.pending := rfl

@[simp] theorem State.sendList_link : (s.sendList).link = s.link := rfl
@[simp] theorem State.sendList_ctl : (s.sendList).ctl = s.ctl := rfl
@[simp] theorem State.sendList_angle : (s.sendList).angle = s.angle := rfl
@[simp] theorem State.sendList_tables : (s.sendList).tables = s.tables := rfl
@[simp] theorem State.sendList_txns : (s.sendList).txns = s.txns := rfl
@[simp] theorem State.sendList_div : (s.sendList).div = s.div := rfl
@[simp] theorem State.sendList_pool : (s.sendList).pool = s.pool := rfl
@[simp] theorem State.sendList_port : (s.sendList).port = s.port := rfl
@[simp] theorem State.sendList_resetLow : (s.sendList).resetLow = s.resetLow := rfl
@[simp] theorem State.sendList_freeCount : (s.sendList).freeCount = s.freeCount := rfl
@[simp] theorem State.sendList_rx : (s.sendList).rx = s.rx := rfl
@[simp] theorem State.sendList_sensorBus : (s.sendList).sensorBus = s.sensorBus := rfl
@[simp] theorem State.sendList_pending : (s.sendList).pending = s.pending := rfl

@[simp] theorem State.sendOff_link : (s.sendOff).link = s.link := rfl
@[simp] theorem State.sendOff_ctl : (s.sendOff).ctl = s.ctl := rfl
@[simp] theorem State.sendOff_angle : (s.sendOff).angle = s.angle := rfl
@[simp] theorem State.sendOff_tables : (s.sendOff).tables = s.tables := rfl
@[simp] theorem State.sendOff_txns : (s.sendOff).txns = s.txns := rfl
@[simp] theorem State.sendOff_div : (s.sendOff).div = s.div := rfl
@[simp] theorem State.sendOff_pool : (s.sendOff).pool = s.pool := rfl
@[simp] theorem State.sendOff_port : (s.sendOff).port = s.port := rfl
@[simp] theorem State.sendOff_resetLow : (s.sendOff).resetLow = s.resetLow := rfl
@[simp] theorem State.sendOff_freeCount : (s.sendOff).freeCount = s.freeCount := rfl
@[simp] theorem State.sendOff_rx : (s.sendOff).rx = s.rx := rfl
@[simp] theorem State.sendOff_sensorBus : (s.sendOff).sensorBus = s.sensorBus := rfl
@[simp] theorem State.sendOff_pending : (s.sendOff).pending = s.pending := rfl

@[simp] theorem State.push_link (c : Instr) : (s.push c).link = s.link := rfl
@[simp] theorem State.push_ctl (c : Instr) : (s.push c).ctl = s.ctl := rfl
@[simp] theorem State.push_angle (c : Instr) : (s.push c).angle = s.angle := rfl
@[simp] theorem State.push_tables (c : Instr) : (s.push c).tables = s.tables := rfl
@[simp] theorem State.push_txns (c : Instr) : (s.push c).txns = s.txns := rfl
@[simp] theorem State.push_div (c : Instr) : (s.push c).div = s.div := rfl
@[simp] theorem State.push_pool (c : Instr) : (s.push c).pool = s.pool := rfl
@[simp] theorem State.push_panel (c : Instr) : (s.push c).panel = s.panel := rfl
@[simp] theorem State.push_port (c : Instr) : (s.push c).port = s.port := rfl
@[simp] theorem State.push_resetLow (c : Instr) : (s.push c).resetLow = s.resetLow := rfl
@[simp] theorem State.push_freeCount (c : Instr) : (s.push c).freeCount = s.freeCount := rfl
@[simp] theorem State.push_rx (c : Instr) : (s.push c).rx = s.rx := rfl
@[simp] theorem State.push_sensorBus (c : Instr) : (s.push c).sensorBus = s.sensorBus := rfl

/-! ### What the updates write -/

@[simp] theorem Tables.setEntry_same (t : Tables) (sf : Surf) (e : Entry) : (t.setEntry sf e).entry sf = e := by
  simp [Tables.setEntry, Tables.entry]

theorem Tables.setEntry_other (t : Tables) {sf sg : Surf} (e : Entry) (h : sf ≠ sg) :
    (t.setEntry sf e).entry sg = t.entry sg := by
  have h' : sf.val ≠ sg.val := fun e => h (Fin.ext e)
  simp [Tables.setEntry, Tables.entry, h']

@[simp] theorem Tables.setEntry_lists (t : Tables) (sf : Surf) (e : Entry) : (t.setEntry sf e).lists = t.lists := rfl

@[simp] theorem State.setSurface_same (sf : Surf) (e : Entry) : (s.setSurface sf e).surface sf = e := by
  simp [State.setSurface, State.surface]

@[simp] theorem State.setAccess_notices (kind : Byte) (command : Option Byte) (reply : List Byte) :
    (s.setAccess kind command reply).port.notices = s.port.notices := rfl

@[simp] theorem State.setAccess_cfg (kind : Byte) (command : Option Byte) (reply : List Byte) :
    (s.setAccess kind command reply).port.cfg = s.port.cfg := rfl

@[simp] theorem State.setAccess_access (kind : Byte) (command : Option Byte) (reply : List Byte) :
    (s.setAccess kind command reply).port.access = some ⟨kind, command, reply⟩ := rfl

@[simp] theorem State.enqueueControl_control (m : Msg) : (s.enqueueControl m).pool.control = s.pool.control ++ [m] := rfl

/-! ### Operand forms -/

@[simp] theorem toStation_stationByte (k : Station) : toStation (stationByte k) = some k := by
  revert k; decide

@[simp] theorem toSurf_surfByte (sf : Surf) : toSurf (surfByte sf) = some sf := by
  revert sf; decide

@[simp] theorem toTarget_targetByte (t : Target) : toTarget (targetByte t) = some t := by
  cases t with
  | panel k => revert k; decide
  | span => decide

@[simp] theorem toTxnId_bytes (i : TxnId) : toTxnId (stationByte i.orig) i.seq = some i := by
  simp [toTxnId]

end Sys2Proof.Machine
end

