-- ==== Sys2Proof/Laws/Evolves.lean ====
section
/-! SUPPORT. What every shared operation keeps, said once: an operation evolves a state where it leaves the queue, RESET_N,
the straps and the configuration, and carries every invariant of Safety.lean on. -/

namespace Sys2Proof.Machine

/-- What no operation but a reset, SET_CONFIG and READ_STATUS changes. -/
def State.outer (s : State) : List Instr × Bool × Nat × Straps × ConfigItems :=
  (s.pending, s.resetLow, s.freeCount, s.ctl.straps, s.port.cfg)

/-- `t` comes from `s` by operations that leave the outer part and carry the invariants on. -/
def Evolves (s t : State) : Prop :=
  t.outer = s.outer ∧ (s.NoticesFit → t.NoticesFit) ∧ (s.LockedOnLink → t.LockedOnLink) ∧
    (s.PaceIsLowest → t.PaceIsLowest) ∧ (s.DegradedAtThree → t.DegradedAtThree) ∧
    (s.FreezeFlagMeans → t.FreezeFlagMeans) ∧ (s.SharedFit → t.SharedFit)

theorem Evolves.refl (s : State) : Evolves s s := ⟨rfl, id, id, id, id, id, id⟩

theorem Evolves.trans {s t u : State} (h : Evolves s t) (g : Evolves t u) : Evolves s u :=
  ⟨g.1.trans h.1, g.2.1 ∘ h.2.1, g.2.2.1 ∘ h.2.2.1, g.2.2.2.1 ∘ h.2.2.2.1, g.2.2.2.2.1 ∘ h.2.2.2.2.1,
    g.2.2.2.2.2.1 ∘ h.2.2.2.2.2.1, g.2.2.2.2.2.2 ∘ h.2.2.2.2.2.2⟩

theorem Evolves.pending {s t : State} (h : Evolves s t) : t.pending = s.pending := congrArg (·.1) h.1
theorem Evolves.resetLow {s t : State} (h : Evolves s t) : t.resetLow = s.resetLow := congrArg (·.2.1) h.1
theorem Evolves.freeCount {s t : State} (h : Evolves s t) : t.freeCount = s.freeCount := congrArg (·.2.2.1) h.1
theorem Evolves.straps {s t : State} (h : Evolves s t) : t.ctl.straps = s.ctl.straps := congrArg (·.2.2.2.1) h.1
theorem Evolves.cfg {s t : State} (h : Evolves s t) : t.port.cfg = s.port.cfg := congrArg (·.2.2.2.2) h.1

/-- A fold of operations that each evolve the state evolves it. -/
theorem Evolves.foldl {α : Type} {s : State} {f : State → α → State} (hf : ∀ t a, Evolves t (f t a)) (l : List α)
    {t : State} (h : Evolves s t) : Evolves s (l.foldl f t) := by
  induction l generalizing t with
  | nil => exact h
  | cons a l ih => exact ih (h.trans (hf t a))

/-! ### Notices, drops, link errors -/

@[simp] theorem State.notify_link (s : State) (n : Notice) : (s.notify n).link = s.link := by
  unfold State.notify; split <;> rfl

@[simp] theorem State.notify_ctl (s : State) (n : Notice) : (s.notify n).ctl = s.ctl := by
  unfold State.notify; split <;> rfl

@[simp] theorem State.notify_angle (s : State) (n : Notice) : (s.notify n).angle = s.angle := by
  unfold State.notify; split <;> rfl

@[simp] theorem State.notify_tables (s : State) (n : Notice) : (s.notify n).tables = s.tables := by
  unfold State.notify; split <;> rfl

@[simp] theorem State.notify_txns (s : State) (n : Notice) : (s.notify n).txns = s.txns := by
  unfold State.notify; split <;> rfl

@[simp] theorem State.notify_div (s : State) (n : Notice) : (s.notify n).div = s.div := by
  unfold State.notify; split <;> rfl

@[simp] theorem State.notify_pool (s : State) (n : Notice) : (s.notify n).pool = s.pool := by
  unfold State.notify; split <;> rfl

@[simp] theorem State.notify_rx (s : State) (n : Notice) : (s.notify n).rx = s.rx := by
  unfold State.notify; split <;> rfl

@[simp] theorem State.notify_sensorBus (s : State) (n : Notice) : (s.notify n).sensorBus = s.sensorBus := by
  unfold State.notify; split <;> rfl

@[simp] theorem State.notify_panel (s : State) (n : Notice) : (s.notify n).panel = s.panel := by
  unfold State.notify; split <;> rfl

@[simp] theorem State.notify_resetLow (s : State) (n : Notice) : (s.notify n).resetLow = s.resetLow := by
  unfold State.notify; split <;> rfl

@[simp] theorem State.notify_freeCount (s : State) (n : Notice) : (s.notify n).freeCount = s.freeCount := by
  unfold State.notify; split <;> rfl

@[simp] theorem State.notify_pending (s : State) (n : Notice) : (s.notify n).pending = s.pending := by
  unfold State.notify; split <;> rfl

@[simp] theorem State.notify_cfg (s : State) (n : Notice) : (s.notify n).port.cfg = s.port.cfg := by
  unfold State.notify; split <;> rfl

@[simp] theorem State.notify_locked (s : State) (n : Notice) : (s.notify n).port.locked = s.port.locked := by
  unfold State.notify; split <;> rfl

/-- A notice goes in at the back while fewer than 16 are held (R186). -/
theorem State.notify_room {s : State} (n : Notice) (h : s.port.notices.length < 16) :
    (s.notify n).port.notices = s.port.notices ++ [n] := by
  simp [State.notify, h]

/-- A notice that finds 16 is discarded, and the overrun flag is set (R186). -/
theorem State.notify_full {s : State} (n : Notice) (h : 16 ≤ s.port.notices.length) :
    (s.notify n).port.notices = s.port.notices ∧ (s.notify n).port.overrun = true := by
  simp [State.notify, Nat.not_lt.mpr h]

theorem State.notify_evolves (s : State) (n : Notice) : Evolves s (s.notify n) := by
  unfold State.notify
  split
  · next h =>
    refine ⟨rfl, fun _ => ?_, id, id, id, id, id⟩
    simp only [State.NoticesFit, List.length_append, List.length_singleton]
    omega
  · exact Evolves.refl s

theorem State.notifyAt_evolves (s : State) (k : Option Station) (n : Notice) : Evolves s (s.notifyAt k n) := by
  unfold State.notifyAt
  split
  · exact s.notify_evolves n
  · exact Evolves.refl s

theorem Pool.countDrop_queues (p : Pool) (d : DropRecord) :
    (p.countDrop d).transaction = p.transaction ∧ (p.countDrop d).state = p.state ∧
      (p.countDrop d).relay = p.relay ∧ (p.countDrop d).control = p.control := by
  unfold Pool.countDrop
  split
  · exact ⟨rfl, rfl, rfl, rfl⟩
  · split <;> exact ⟨rfl, rfl, rfl, rfl⟩

theorem Pool.recordDrop_queues (p : Pool) (d : DropRecord) :
    (p.recordDrop d).transaction = p.transaction ∧ (p.recordDrop d).state = p.state ∧
      (p.recordDrop d).relay = p.relay ∧ (p.recordDrop d).control = p.control := by
  unfold Pool.recordDrop
  split
  · exact ⟨rfl, rfl, rfl, rfl⟩
  · split <;> exact ⟨rfl, rfl, rfl, rfl⟩

/-- The shared holdings depend on the three shared queues and the frame being sent. -/
theorem State.holdingShared_congr {s t : State} (h1 : t.pool.transaction.length = s.pool.transaction.length)
    (h2 : t.pool.state.length = s.pool.state.length) (h3 : t.pool.relay.length = s.pool.relay.length)
    (h4 : t.link.sending = s.link.sending) : t.holdingShared = s.holdingShared := by
  simp only [State.holdingShared, State.holding, State.packed, Pool.queued, h1, h2, h3, h4]

/-- The pool changed so that shared queues only lose messages and the CONTROL queue takes CONTROL messages only. -/
theorem State.shrink_evolves (s : State) (q : Pool) (h1 : q.transaction.length ≤ s.pool.transaction.length)
    (h2 : q.state.length ≤ s.pool.state.length) (h3 : q.relay.length ≤ s.pool.relay.length)
    (h4 : ∀ m ∈ q.control, m ∈ s.pool.control ∨ m.isControl = true) : Evolves s { s with pool := q } := by
  refine ⟨rfl, id, id, id, id, id, fun h => ⟨Nat.le_trans ?_ h.1, fun m hm => (h4 m hm).elim (h.2 m) id⟩⟩
  simp only [State.holdingShared, State.holding, State.packed, Pool.queued]
  omega

/-- A drop leaves the queues. -/
theorem State.drop_evolves (s : State) (c : SharedClass) (r : DropReason) (k : Byte) (p : Option Station) :
    Evolves s (s.drop c r k p) := by
  refine s.shrink_evolves _ ?_ ?_ ?_ ?_
  all_goals simp [Pool.countDrop_queues, Pool.recordDrop_queues]
  exact fun m hm => Or.inl hm

theorem State.logMinor_evolves (s : State) (k : LinkError) (slot : Station) : Evolves s (s.logMinor k slot) := by
  unfold State.logMinor
  split <;> exact Evolves.refl s

theorem State.logMajor_evolves (s : State) (k : LinkError) (slot : Station) : Evolves s (s.logMajor k slot) := by
  unfold State.logMajor
  split <;> exact Evolves.refl s

theorem State.logError_evolves (s : State) (k : LinkError) (slot : Station) : Evolves s (s.logError k slot) := by
  unfold State.logError
  split
  · exact s.logMinor_evolves _ _
  · exact s.logMinor_evolves _ _
  · exact s.logMinor_evolves _ _
  · exact s.logMajor_evolves _ _
  · exact s.logMajor_evolves _ _

/-! ### Pool -/

theorem State.enqueueControl_evolves (s : State) (m : Msg) (h : m.isControl = true) :
    Evolves s (s.enqueueControl m) := by
  refine s.shrink_evolves _ (Nat.le_refl _) (Nat.le_refl _) (Nat.le_refl _) ?_
  intro x hx
  rcases List.mem_append.mp hx with hx | hx
  · exact Or.inl hx
  · exact Or.inr (by rw [List.mem_singleton.mp hx]; exact h)

/-- A request is dropped, or puts its message in where the shared holdings are below 20. -/
theorem State.request_evolves (s : State) (c : SharedClass) (m : Msg) : Evolves s (s.request c m).1 := by
  unfold State.request
  split
  · exact s.drop_evolves _ _ _ _
  · next h =>
    refine ⟨rfl, id, id, id, id, id, fun g => ⟨?_, ?_⟩⟩
    rotate_left
    · cases m <;> first | exact g.2 | (
        intro x hx
        rcases List.mem_append.mp hx with hx | hx
        · exact g.2 x hx
        · rw [List.mem_singleton.mp hx]; rfl)
    have h20 : s.holdingShared < 20 := by
      unfold State.admission at h
      split at h
      · cases h
      · omega
    have key : State.holdingShared { s with pool := s.pool.enqueue m } ≤ s.holdingShared + 1 := by
      cases m <;>
        simp only [Pool.enqueue, State.holdingShared, State.holding, State.packed, Pool.queued, List.length_append,
          List.length_singleton] <;> omega
    exact Nat.le_trans key h20

theorem State.enqueueOr_evolves (s : State) (c : SharedClass) (m : Msg) : Evolves s (s.enqueueOr c m).1 :=
  s.request_evolves c m

/-! ### Entries -/

theorem State.setSurface_evolves (s : State) (sf : Surf) (e : Entry) : Evolves s (s.setSurface sf e) := Evolves.refl s

theorem State.clearTables_evolves (s : State) : Evolves s s.clearTables := Evolves.refl s

theorem State.endOwn_evolves (s : State) (i : TxnId) (sf : Surf) (o : TxnOutcome) : Evolves s (s.endOwn i sf o) :=
  State.notify_evolves { s with txns := { s.txns with ownOpen := s.txns.ownOpen - 1 } } _

/-- Withdrawn answers leave the rest of the CONTROL queue. -/
theorem State.withdrawAnswers_evolves (s : State) (i : TxnId) :
    Evolves s { s with pool := s.pool.withdrawAnswers i } :=
  s.shrink_evolves _ (Nat.le_refl _) (Nat.le_refl _) (Nat.le_refl _)
    (fun _ hm => Or.inl (List.mem_filter.mp hm).1)

/-- A removal of an open entry evolves the state. -/
theorem State.removeTxn_evolves (s : State) (e : Txn) (o : TxnOutcome) : Evolves s (s.removeTxn e o) := by
  unfold State.removeTxn
  dsimp only
  have h : Evolves s (State.setSurface { s with txns := s.txns.takeOut e } e.surf
      { State.surface { s with txns := s.txns.takeOut e } e.surf with lock := none }) := Evolves.refl s
  generalize State.setSurface { s with txns := s.txns.takeOut e } e.surf
      { State.surface { s with txns := s.txns.takeOut e } e.surf with lock := none } = u at h ⊢
  have g := h.trans (u.withdrawAnswers_evolves e.id)
  generalize ({ u with pool := u.pool.withdrawAnswers e.id } : State) = v at g ⊢
  split
  · exact g.trans (v.endOwn_evolves e.id e.surf o)
  · exact g

theorem State.removeWhere_evolves (s : State) (p : Txn → Bool) (o : TxnOutcome) : Evolves s (s.removeWhere p o) :=
  Evolves.foldl (fun t e => t.removeTxn_evolves e o) _ (Evolves.refl s)

/-! ### Link state, peer view and pace -/

/-- The pace station after a computation of it. -/
theorem State.repace_pace (s : State) : s.repace.ctl.pace = paceOf s.own s.ctl.linkState s.ctl.peers := by
  unfold State.repace
  dsimp only
  split
  · next h => exact h.symm
  · rfl

theorem State.repace_ctl (s : State) :
    s.repace.ctl.straps = s.ctl.straps ∧ s.repace.ctl.linkState = s.ctl.linkState ∧ s.repace.ctl.peers = s.ctl.peers := by
  unfold State.repace
  dsimp only
  split <;> exact ⟨rfl, rfl, rfl⟩

theorem State.repace_rest (s : State) :
    s.repace.link = s.link ∧ s.repace.angle = s.angle ∧ s.repace.tables = s.tables ∧ s.repace.txns = s.txns ∧
      s.repace.div = s.div ∧ s.repace.pool = s.pool ∧ s.repace.panel = s.panel ∧ s.repace.port = s.port ∧
      s.repace.resetLow = s.resetLow ∧ s.repace.freeCount = s.freeCount ∧ s.repace.pending = s.pending := by
  unfold State.repace
  dsimp only
  split <;> exact ⟨rfl, rfl, rfl, rfl, rfl, rfl, rfl, rfl, rfl, rfl, rfl⟩

/-- After a computation of the pace station it is the lowest. -/
theorem State.repace_paceIsLowest (s : State) : s.repace.PaceIsLowest := by
  unfold State.PaceIsLowest State.own
  rw [s.repace_pace, s.repace_ctl.1, s.repace_ctl.2.1, s.repace_ctl.2.2]
  rfl

theorem State.repace_evolves (s : State) : Evolves s s.repace := by
  unfold State.repace
  dsimp only
  split
  · exact Evolves.refl s
  · exact ⟨rfl, id, id, fun _ => rfl, id, id, id⟩

/-- A peer-view entry is written: the pace station follows. -/
theorem State.setPeer_evolves (s : State) (k : Station) (p : Option Peer) : Evolves s (s.setPeer k p) := by
  have h := State.repace_evolves { s with ctl := { s.ctl with peers := s.ctl.peers.set k p } }
  exact ⟨h.1, h.2.1, h.2.2.1, fun _ => State.repace_paceIsLowest _, h.2.2.2.2.1, h.2.2.2.2.2.1, h.2.2.2.2.2.2⟩

/-- A change of the link state evolves the state where it does not cross HALTED and does not take a freeze flag out of
ACTIVE and RESYNC. -/
theorem State.enterLink_evolves (s : State) (ls : LinkState) (c : LinkCause)
    (hl : (ls != LinkState.halted) = (s.ctl.linkState != LinkState.halted))
    (hf : s.ctl.linkState.present = true → ls.present = true) : Evolves s (s.enterLink ls c) := by
  refine Evolves.trans ?_ (State.notify_evolves _ (.linkState ls c))
  have h := State.repace_evolves { s with ctl := { s.ctl with linkState := ls } }
  refine ⟨h.1, h.2.1, ?_, fun _ => State.repace_paceIsLowest _, h.2.2.2.2.1, ?_, h.2.2.2.2.2.2⟩
  · intro g
    refine h.2.2.1 ?_
    unfold State.LockedOnLink at *
    exact g.trans hl.symm
  · intro g
    refine h.2.2.2.2.2.1 ?_
    unfold State.FreezeFlagMeans at *
    exact fun w => ⟨hf (g w).1, (g w).2⟩

/-- Entry to ACTIVE with empty tables, from a link state other than HALTED. -/
theorem State.becomeActiveEmpty_evolves (s : State) (c : LinkCause) (h : s.ctl.linkState ≠ .halted) :
    Evolves s (s.becomeActiveEmpty c) := by
  refine Evolves.trans (t := { s.clearTables with angle := s.angle.restart }) (Evolves.refl s)
    (State.enterLink_evolves _ .active c ?_ (fun _ => rfl))
  have h' : (s.ctl.linkState != LinkState.halted) = true := by simpa using h
  exact h'.symm

/-! ### Losses -/

theorem State.dropRelaysTo_evolves (s : State) (k : Station) : Evolves s (s.dropRelaysTo k) :=
  Evolves.foldl (fun t _ => t.drop_evolves _ _ _ _) _
    (s.shrink_evolves { s.pool with relay := s.pool.relay.filter (fun r => r.dest != k) } (Nat.le_refl _)
      (Nat.le_refl _) (List.length_filter_le _ _) (fun _ hm => Or.inl hm))

/-- A declared loss evolves the state. -/
theorem State.declareLost_evolves (s : State) (k : Station) (bye : Bool) : Evolves s (s.declareLost k bye) := by
  unfold State.declareLost
  dsimp only
  have h1 := s.setPeer_evolves k none
  have h2 := h1.trans (State.notify_evolves _ (.peer k (if bye = true then .lostBye else .lostSilent)))
  have h3 := h2.trans (State.dropRelaysTo_evolves _ k)
  generalize State.dropRelaysTo _ k = t at h3 ⊢
  split
  · exact h3.trans (State.removeWhere_evolves t _ _)
  · exact h3

/-! ### Detachment -/

theorem State.notifyAll_evolves {α : Type} (s : State) (l : List α) (f : α → Notice) :
    Evolves s (l.foldl (fun t c => t.notify (f c)) s) :=
  Evolves.foldl (fun t c => t.notify_evolves (f c)) l (Evolves.refl s)

/-- A detachment evolves the state; at a station in HALTED it does nothing. -/
theorem State.detach_evolves (s : State) (c : LinkCause) (toHalted : Bool) : Evolves s (s.detach c toHalted) := by
  unfold State.detach
  split
  · exact Evolves.refl s
  · next hne =>
    dsimp only
    have hn := s.notifyAll_evolves s.counted (fun c => .txnDone c.1 c.2 .left)
    generalize hu : s.counted.foldl (fun s c => s.notify (.txnDone c.1 c.2 .left)) s = u at hn
    generalize hb : (!(toHalted || s.ctl.leavePending)) = toListen
    clear hb
    refine Evolves.trans ?_ (State.notify_evolves _ _)
    have hp : (State.repace { u.clearForDetach toListen with
        ctl := { (u.clearForDetach toListen).ctl with linkState := if toListen then .listen else .halted } }).PaceIsLowest :=
      State.repace_paceIsLowest _
    have hr := State.repace_evolves { u.clearForDetach toListen with
        ctl := { (u.clearForDetach toListen).ctl with linkState := if toListen then .listen else .halted } }
    have hlink : u.ctl.linkState = s.ctl.linkState := by
      have hk : ∀ (l : List (TxnId × Surf)) (v : State), v.ctl.linkState = s.ctl.linkState →
          (l.foldl (fun s c => s.notify (.txnDone c.1 c.2 .left)) v).ctl.linkState = s.ctl.linkState := by
        intro l
        induction l with
        | nil => intro v h; exact h
        | cons a l ih =>
          intro v h
          refine ih _ ?_
          dsimp only
          rw [State.notify_ctl]
          exact h
      exact hu ▸ hk _ s rfl
    refine ⟨hr.1.trans hn.1, fun g => hr.2.1 (hn.2.1 g), fun g => hr.2.2.1 ?_, fun _ => hp,
      fun g => hr.2.2.2.2.1 (hn.2.2.2.2.1 g), fun _ => hr.2.2.2.2.2.1 ?_, fun _ => hr.2.2.2.2.2.2 ?_⟩
    · have hl := hn.2.2.1 g
      unfold State.LockedOnLink at *
      rw [hlink] at hl
      have h1 : u.port.locked = true := by rw [hl]; simpa using hne
      show (u.port.locked && toListen) = _
      rw [h1]
      cases toListen <;> rfl
    · intro w
      cases w
    · refine ⟨?_, fun m hm => nomatch hm⟩
      show State.holdingShared _ ≤ 20
      simp [State.holdingShared, State.holding, State.packed, Pool.queued, State.clearForDetach, Pool.emptied]

/-! ### Requests and freezes -/

theorem State.failAttempt_evolves (s : State) : Evolves s s.failAttempt := by
  unfold State.failAttempt
  dsimp only
  split
  · exact Evolves.trans (t := { s with div := { s.div with attempts := s.div.attempts + 1 } }) (Evolves.refl s)
      (State.detach_evolves _ _ _)
  · refine Evolves.trans ?_ (State.enqueueControl_evolves _ _ rfl)
    exact Evolves.refl s

theorem State.endFreeze_evolves (s : State) : Evolves s s.endFreeze :=
  ⟨rfl, id, id, id, id, (fun _ w => nomatch w), id⟩

theorem State.setPosture_evolves (s : State) (p : Posture) (c : PostureCause) : Evolves s (s.setPosture p c) := by
  unfold State.setPosture
  dsimp only
  split
  · exact Evolves.refl s
  · exact Evolves.trans (Evolves.refl s) (State.notify_evolves _ _)

end Sys2Proof.Machine
end

