-- ==== Sys2Proof/Laws/Heard.lean ====
section
/-! SUPPORT. Messages as heard, arrivals, and the placement and posture work evolve the state. -/

namespace Sys2Proof.Machine

/-! ### STATE messages -/

theorem State.voidState_evolves (s : State) (k : Station) (kind : Byte) (sf : Option Surf) (tag : Byte) (r : Reason) :
    Evolves s (s.voidState k kind sf tag r) := s.notifyAt_evolves _ _

theorem State.hearCreate_evolves (s : State) (k : Station) (tag : Byte) (a : Half) (r : Region) (v : Bool) :
    Evolves s (s.hearCreate k tag a r v) := by
  unfold State.hearCreate
  split
  · exact s.voidState_evolves _ _ _ _ _
  · split
    · exact s.voidState_evolves _ _ _ _ _
    · split
      · exact s.voidState_evolves _ _ _ _ _
      · exact Evolves.trans (Evolves.refl s) (State.notifyAt_evolves _ _ _)

theorem State.onHeard_evolves (s : State) (k : Station) (kind : Byte) (sf : Surf) {t : State} (h : Evolves s t) :
    Evolves s (s.onHeard k kind sf t) := by
  unfold State.onHeard
  split
  · exact s.voidState_evolves _ _ _ _ _
  · split
    · exact s.voidState_evolves _ _ _ _ _
    · split
      · exact s.voidState_evolves _ _ _ _ _
      · exact h

theorem State.hearDestroy_evolves (s : State) (k : Station) (sf : Surf) : Evolves s (s.hearDestroy k sf) := by
  refine s.onHeard_evolves k _ sf ?_
  split
  · exact s.voidState_evolves _ _ _ _ _
  · exact Evolves.refl s

theorem State.hearSetVisible_evolves (s : State) (k : Station) (sf : Surf) (v : Bool) :
    Evolves s (s.hearSetVisible k sf v) := s.onHeard_evolves k _ sf (Evolves.refl s)

theorem State.hearRestack_evolves (s : State) (k : Station) (sf : Surf) (d : Direction) :
    Evolves s (s.hearRestack k sf d) := s.onHeard_evolves k _ sf (Evolves.refl s)

theorem State.hearResize_evolves (s : State) (k : Station) (sf : Surf) (r : Region) :
    Evolves s (s.hearResize k sf r) := s.onHeard_evolves k _ sf (Evolves.refl s)

theorem State.hearArrived_evolves (s : State) (k : Station) (sf : Surf) : Evolves s (s.hearArrived k sf) :=
  s.onHeard_evolves k _ sf (Evolves.refl s)

/-! ### Transaction messages -/

theorem State.voidPropose_evolves (s : State) (i : TxnId) (sf : Surf) (r : Reason) :
    Evolves s (s.voidPropose i sf r) := by
  unfold State.voidPropose
  split
  · exact s.endOwn_evolves _ _ _
  · exact Evolves.refl s

theorem State.answerPropose_evolves (s : State) (t : Txn) (e : Entry) : Evolves s (s.answerPropose t e) := by
  unfold State.answerPropose
  split
  · exact Evolves.refl s
  · split
    · exact s.enqueueControl_evolves _ rfl
    · split
      · exact Evolves.trans (Evolves.refl s) (State.notify_evolves _ _)
      · exact s.enqueueControl_evolves _ rfl

theorem State.acceptPropose_evolves (s : State) (i : TxnId) (k : TxnKind) (sf : Surf) (p : Placement) (f : Bool) :
    Evolves s (s.acceptPropose i k sf p f) :=
  Evolves.trans (Evolves.refl s) (State.answerPropose_evolves _ _ _)

theorem State.hearPropose_evolves (s : State) (i : TxnId) (k : TxnKind) (sf : Surf) (d : Option Placement) (f : Bool) :
    Evolves s (s.hearPropose i k sf d f) := by
  unfold State.hearPropose
  dsimp only
  repeat' split
  all_goals first | exact s.voidPropose_evolves _ _ _ | exact s.acceptPropose_evolves _ _ _ _ _

theorem State.commitNotices_evolves (s : State) (t : Txn) (e : Entry) : Evolves s (s.commitNotices t e) := by
  unfold State.commitNotices
  dsimp only
  refine Evolves.trans ?_ (State.notifyAt_evolves _ _ _)
  have h : Evolves s (if t.id.orig = s.own then s.endOwn t.id t.surf .committed else s) := by
    split
    · exact s.endOwn_evolves _ _ _
    · exact Evolves.refl s
  generalize (if t.id.orig = s.own then s.endOwn t.id t.surf .committed else s) = u at h ⊢
  split
  · exact h.trans (State.notifyAt_evolves u _ _)
  · exact h

theorem State.commit_evolves (s : State) (t : Txn) : Evolves s (s.commit t) := by
  refine Evolves.trans ?_ (State.commitNotices_evolves _ _ _)
  exact s.withdrawAnswers_evolves t.id

theorem State.hearReady_evolves (s : State) (k : Station) (i : TxnId) : Evolves s (s.hearReady k i) := by
  unfold State.hearReady
  split
  · exact Evolves.refl s
  · split
    · exact Evolves.refl s
    · dsimp only
      split
      · exact Evolves.trans (Evolves.refl s) (State.commit_evolves _ _)
      · exact Evolves.refl s

theorem State.hearRefuse_evolves (s : State) (k : Station) (i : TxnId) (r : Option Reason) :
    Evolves s (s.hearRefuse k i r) := by
  unfold State.hearRefuse
  split
  · exact Evolves.refl s
  · split
    · exact s.removeTxn_evolves _ _
    · exact Evolves.refl s

theorem State.hearCancel_evolves (s : State) (k : Station) (i : TxnId) : Evolves s (s.hearCancel k i) := by
  unfold State.hearCancel
  split
  · exact Evolves.refl s
  · split
    · exact s.removeTxn_evolves _ _
    · exact Evolves.refl s

/-! ### The divergence monitor's messages and RELAY -/

theorem State.hearResyncReq_evolves (s : State) (k : Station) : Evolves s (s.hearResyncReq k) := by
  unfold State.hearResyncReq
  dsimp only
  repeat' split
  all_goals exact Evolves.refl s

theorem State.failCollection_evolves (s : State) (k : Station) : Evolves s (s.failCollection k) := by
  unfold State.failCollection
  split
  · exact s.failAttempt_evolves
  · exact Evolves.refl s

theorem State.hearDump_evolves (s : State) (k : Station) (r : DumpRecord) : Evolves s (s.hearDump k r) := by
  unfold State.hearDump
  split
  · split
    · exact Evolves.refl s
    · exact s.failAttempt_evolves
  · exact Evolves.refl s

theorem State.setPosture_linkState (s : State) (p : Posture) (c : PostureCause) :
    (s.setPosture p c).ctl = s.ctl ∧ (s.setPosture p c).div = s.div := by
  unfold State.setPosture
  dsimp only
  split
  · exact ⟨rfl, rfl⟩
  · simp

theorem State.tracking_aligned {s : State} (h : s.tracking = true) : s.ctl.linkState.aligned = true := by
  unfold State.tracking at h
  simp at h
  exact h.2

theorem LinkState.aligned_ne_halted {ls : LinkState} (h : ls.aligned = true) : (ls != LinkState.halted) = true := by
  cases ls <;> first | rfl | cases h

theorem State.installed_evolves (s : State) (h : s.ctl.linkState.aligned = true) : Evolves s s.installed := by
  refine Evolves.trans (t := { s with
    div := { s.div with dumpState := .none, attempts := 0 }
    ctl := { s.ctl with joinPending := false } }) (Evolves.refl s) (State.enterLink_evolves _ .active _ ?_ (fun _ => rfl))
  exact (LinkState.aligned_ne_halted h).symm

theorem State.failInstall_evolves (s : State) : Evolves s s.failInstall := by
  unfold State.failInstall
  split
  · exact Evolves.trans
      (t := { s.clearTables with
        angle := { s.clearTables.angle.restart with samples := #v[none, none, none, none] } })
      (Evolves.refl s) (State.failAttempt_evolves _)
  · exact s.failAttempt_evolves

theorem State.install_evolves (s : State) (rs : List DumpRecord) (n : Nat) (p : PostureState) (w : Word)
    (h : s.ctl.linkState.aligned = true) : Evolves s (s.install rs n p w) := by
  unfold State.install
  split
  · exact s.failInstall_evolves
  · split
    · exact s.failInstall_evolves
    · next tb _ =>
      dsimp only
      have hp : Evolves s (State.installPosture
          { s with tables := tb, txns := { s.txns with table := [], offers := [] } } p) := by
        unfold State.installPosture
        exact Evolves.trans (Evolves.refl s) (State.setPosture_evolves _ _ _)
      have hl : (State.installPosture
          { s with tables := tb, txns := { s.txns with table := [], offers := [] } } p).ctl = s.ctl := by
        unfold State.installPosture
        rw [(State.setPosture_linkState _ _ _).1]
      generalize State.installPosture _ p = u at hp hl ⊢
      split
      · exact hp.trans (u.installed_evolves (by rw [hl]; exact h))
      · exact hp.trans u.failInstall_evolves

theorem State.takeDumpEnd_evolves (s : State) (k : Station) (n : Nat) (p : PostureState) (w : Word)
    (h : s.ctl.linkState.aligned = true) : Evolves s (s.takeDumpEnd k n p w) := by
  unfold State.takeDumpEnd
  split
  · split
    · exact s.install_evolves _ _ _ _ h
    · exact s.failAttempt_evolves
  all_goals exact Evolves.refl s

theorem State.hearDumpEnd_evolves (s : State) (k : Station) (n : Nat) (p : PostureState) (w : Word)
    (h : s.ctl.linkState.aligned = true) : Evolves s (s.hearDumpEnd k n p w) := by
  unfold State.hearDumpEnd
  split
  · exact Evolves.refl s
  · exact (s.takeDumpEnd_evolves k n p w h).trans (State.endFreeze_evolves _)

theorem State.hearRelay_evolves (s : State) (k d : Station) (p : List Byte) : Evolves s (s.hearRelay k d p) := by
  unfold State.hearRelay
  split
  · exact Evolves.refl s
  · split
    · exact s.notify_evolves _
    · exact s.drop_evolves _ _ _ _

/-! ### Messages in frame order -/

/-- A message as heard evolves the state. -/
theorem State.hearMsg_evolves (s : State) (k : Station) (m : Msg) : Evolves s (s.hearMsg k m) := by
  unfold State.hearMsg
  cases m <;> dsimp only
  case relay d p => exact s.hearRelay_evolves k d p
  all_goals split
  all_goals first
    | exact Evolves.refl s
    | exact s.hearCreate_evolves _ _ _ _ _
    | exact s.hearDestroy_evolves _ _
    | exact s.hearSetVisible_evolves _ _ _
    | exact s.hearRestack_evolves _ _ _
    | exact s.hearResize_evolves _ _ _
    | exact s.hearArrived_evolves _ _
    | exact s.hearPropose_evolves _ _ _ _ _
    | exact s.hearCancel_evolves _ _
    | exact s.hearReady_evolves _ _
    | exact s.hearRefuse_evolves _ _ _
    | exact s.hearResyncReq_evolves _
    | exact s.hearDump_evolves _ _
    | next h => exact s.hearDumpEnd_evolves _ _ _ _ (State.tracking_aligned h)

theorem State.takeMsg_evolves (s : State) (k : Station) (m : HeardMsg) : Evolves s (s.takeMsg k m) := by
  unfold State.takeMsg
  split
  · split
    · exact s.hearMsg_evolves k _
    · exact Evolves.refl s
  · exact Evolves.refl s

/-- The messages of a heard frame evolve the state. -/
theorem State.takeMsgs_evolves (s : State) (k : Station) (ms : List HeardMsg) : Evolves s (s.takeMsgs k ms) :=
  Evolves.foldl (fun t m => t.takeMsg_evolves k m) ms (Evolves.refl s)

/-! ### The header and the own arrival -/

theorem State.takeHeader_evolves (s : State) (h : Header) : Evolves s (s.takeHeader h) := by
  unfold State.takeHeader
  dsimp only
  have hp := s.setPeer_evolves h.station (some h.peer)
  generalize s.setPeer h.station (some h.peer) = u at hp ⊢
  split
  · split
    · exact Evolves.refl s
    · exact s.declareLost_evolves _ _
  · split
    · exact hp.trans (u.notify_evolves _)
    · exact hp

theorem State.takeSample_evolves (s : State) (h : Header) : Evolves s (s.takeSample h) := by
  unfold State.takeSample
  split <;> exact Evolves.refl s

theorem State.takeCandidate_evolves (s : State) (h : Header) : Evolves s (s.takeCandidate h) := by
  unfold State.takeCandidate
  split <;> exact Evolves.refl s

theorem State.handOwn_evolves (s : State) (f : OwnFrame) : Evolves s (s.handOwn f) := by
  unfold State.handOwn
  dsimp only
  have hp := s.setPeer_evolves s.own (some f.header.peer)
  generalize s.setPeer s.own (some f.header.peer) = u at hp ⊢
  refine Evolves.trans ?_ (State.takeMsgs_evolves _ _ _)
  refine Evolves.trans ?_ (State.takeCandidate_evolves _ _)
  refine Evolves.trans ?_ (State.takeSample_evolves _ _)
  split
  · exact Evolves.refl s
  · exact hp

theorem State.countClash_evolves (s : State) (c : Bool) : Evolves s (s.countClash c) := by
  unfold State.countClash
  dsimp only
  generalize (if c = true then s.ctl.clashCount + 1 else 0) = n
  split
  · exact Evolves.trans (t := { s with ctl := { s.ctl with clashCount := n } }) (Evolves.refl s)
      (State.detach_evolves _ _ _)
  · exact Evolves.refl s

/-- A station that stops sending holds no more buffers than before. -/
theorem State.stopSending_evolves (s : State) : Evolves s s.stopSending := by
  refine ⟨rfl, id, id, id, id, id, fun h => ⟨Nat.le_trans ?_ h.1, h.2⟩⟩
  simp only [State.holdingShared, State.holding, State.packed, Pool.queued, State.stopSending, List.countP_nil]
  omega

/-- The end of the own transmission frees its buffers (R158). -/
theorem State.endSending_evolves (s : State) (f : OwnFrame) : Evolves s (s.endSending f) := by
  unfold State.endSending
  dsimp only
  split
  · exact s.stopSending_evolves
  · exact s.stopSending_evolves.trans (Evolves.refl _)

theorem State.ownArrival_evolves (s : State) (bs : List Byte) (b : Bool) : Evolves s (s.ownArrival bs b) := by
  unfold State.ownArrival
  split
  · exact Evolves.refl s
  · next f _ =>
    dsimp only
    generalize (bs != f.bytes || b) = clash
    have h1 : Evolves s (if clash = true then s.logError .clash s.own else s) := by
      split
      · exact s.logError_evolves _ _
      · exact Evolves.refl s
    generalize (if clash = true then s.logError .clash s.own else s) = u at h1 ⊢
    have h2 := (h1.trans (u.endSending_evolves f)).trans (State.handOwn_evolves _ f)
    generalize (u.endSending f).handOwn f = v at h2 ⊢
    split
    · exact h2.trans (v.detach_evolves _ _)
    · split
      · exact h2.trans (v.countClash_evolves _)
      · exact h2

/-! ### Receptions -/

theorem State.silentSlot_evolves (s : State) (k : Station) : Evolves s (s.silentSlot k) := by
  unfold State.silentSlot
  split
  · exact Evolves.trans (t := s.settle k (windowClose k)) (Evolves.refl s) (State.failCollection_evolves _ _)
  · exact Evolves.refl s

theorem State.failedPace_evolves (s : State) (kind : LinkError) (h : Option Header) (o : Int) :
    Evolves s (s.failedPace kind h o) := by
  unfold State.failedPace
  repeat' split
  all_goals exact Evolves.refl s

theorem State.failedFrame_evolves (s : State) (mode : ReceptionMode) (slot : Station) (kind : LinkError)
    (h : Option Header) (o : Int) : Evolves s (s.failedFrame mode slot kind h o) := by
  unfold State.failedFrame
  dsimp only
  have hl := s.logError_evolves kind slot
  generalize s.logError kind slot = u at hl ⊢
  split
  · exact (hl.trans (u.failedPace_evolves kind h o)).trans (State.failCollection_evolves _ _)
  · exact hl

theorem State.integrate_evolves (s : State) (h : Header) (len : Nat)
    (hs : s.ctl.linkState = .listen ∨ s.ctl.linkState = .coldstart) : Evolves s (s.integrate h len) := by
  unfold State.integrate State.sendingLeft
  refine Evolves.trans ?_ (State.enterLink_evolves _ .integrating _ ?_ ?_)
  · split
    · exact Evolves.refl s
    · exact s.stopSending_evolves
  · dsimp only
    rcases hs with hs | hs <;> rw [hs] <;> rfl
  · dsimp only
    rcases hs with hs | hs <;> rw [hs] <;> (intro w; cases w)

theorem State.paceFrame_state {s : State} {h : Header} (g : s.paceFrame h = true) :
    s.ctl.linkState = .listen ∨ s.ctl.linkState = .coldstart := by
  unfold State.paceFrame at g
  cases hl : s.ctl.linkState <;> simp [hl] at g ⊢

theorem State.checkDumpItems_evolves (s : State) (f : Frame) : Evolves s (s.checkDumpItems f) := by
  unfold State.checkDumpItems
  split
  · exact Evolves.refl s
  · exact s.failCollection_evolves _

theorem State.setPeer_linkState (s : State) (k : Station) (p : Option Peer) :
    (s.setPeer k p).ctl.linkState = s.ctl.linkState := (State.repace_ctl _).2.1

/-- A header without BYE leaves the link state. -/
theorem State.takeHeader_linkState (s : State) (h : Header) (hb : h.bye = false) :
    (s.takeHeader h).ctl.linkState = s.ctl.linkState := by
  unfold State.takeHeader
  simp only [hb]
  split
  · next w => cases w
  · split
    · rw [State.notify_ctl]
      exact s.setPeer_linkState _ _
    · exact s.setPeer_linkState _ _

theorem State.hearFrame_evolves (s : State) (r : Reception) (f : Frame) (o : Int) : Evolves s (s.hearFrame r f o) := by
  unfold State.hearFrame
  dsimp only
  refine Evolves.trans ?_ (State.takeMsgs_evolves _ _ _)
  refine Evolves.trans ?_ (State.checkDumpItems_evolves _ _)
  refine Evolves.trans ?_ (State.takeCandidate_evolves _ _)
  refine Evolves.trans ?_ (State.takeSample_evolves _ _)
  have h1 : Evolves s (if r.mode = .aligned ∧ (s.markHeard f.header.station).paceOther f.header.station = true then
      (s.markHeard f.header.station).align o else s.markHeard f.header.station) := by
    split <;> exact Evolves.refl s
  generalize (if r.mode = .aligned ∧ (s.markHeard f.header.station).paceOther f.header.station = true then
      (s.markHeard f.header.station).align o else s.markHeard f.header.station) = u at h1 ⊢
  have h2 := h1.trans (u.takeHeader_evolves f.header)
  split
  · next hp =>
    refine h2.trans (State.integrate_evolves _ _ _ ?_)
    have hb : f.header.bye = false := by
      unfold State.paceFrame at hp
      cases hb : f.header.bye
      · rfl
      · simp [hb] at hp
    rw [u.takeHeader_linkState _ hb]
    exact State.paceFrame_state hp
  · exact h2

theorem State.closeReception_evolves (s : State) (slot : Station) (r : Reception) :
    Evolves s (s.closeReception slot r) := by
  unfold State.closeReception
  split <;> exact Evolves.refl s

theorem State.settleReception_evolves (s : State) (slot : Station) (r : Reception) :
    Evolves s (s.settleReception slot r) := by
  unfold State.settleReception
  dsimp only
  have h1 := s.closeReception_evolves slot r
  generalize s.closeReception slot r = u at h1 ⊢
  split
  · exact h1.trans (u.hearFrame_evolves _ _ _)
  · exact h1.trans (u.failedFrame_evolves _ _ _ _ _)

theorem State.receive_evolves (s : State) (r : Reception) : Evolves s (s.receive r) := by
  unfold State.receive
  split
  · split
    · split
      · split
        · exact Evolves.refl s
        · exact s.settleReception_evolves _ _
      · exact Evolves.refl s
    · exact s.settleReception_evolves _ _
  · exact Evolves.refl s

/-- An arrival evolves the state. -/
theorem State.arrive_evolves (s : State) (a : Arrival) : Evolves s (s.arrive a) := by
  unfold State.arrive
  split
  · exact s.ownArrival_evolves _ _
  · exact s.silentSlot_evolves _
  · exact s.receive_evolves _

end Sys2Proof.Machine
end

