-- ==== Sys2Proof/Laws/Events.lean ====
section
/-! SUPPORT. The works of cycle start, packing, tail start and cycle close, and the panel's, evolve the state. -/

namespace Sys2Proof.Machine

/-! ### Cycle close -/

theorem State.abandon_evolves (s : State) : Evolves s s.abandon := by
  unfold State.abandon
  split
  · dsimp only
    have h : Evolves s (if s.activePanel = true then s.removeWhere (fun _ => true) .resync else s) := by
      split
      · exact s.removeWhere_evolves _ _
      · exact Evolves.refl s
    generalize (if s.activePanel = true then s.removeWhere (fun _ => true) .resync else s) = u at h ⊢
    exact h.trans (Evolves.refl u)
  · exact Evolves.refl s

theorem State.unlockRehomed_evolves (s : State) (sf : Surf) : Evolves s (s.unlockRehomed sf) := by
  unfold State.unlockRehomed
  split
  · exact s.removeTxn_evolves _ _
  · exact Evolves.refl s

theorem State.parkSurface_evolves (s : State) (sf : Surf) (e : Entry) (c : SurfaceCause) :
    Evolves s (s.parkSurface sf e c) :=
  Evolves.trans (Evolves.refl s) (State.notifyAt_evolves _ _ _)

theorem State.moveNotices_evolves (s : State) (sf : Surf) (b a : Entry) (p : Placement) (c : SurfaceCause) :
    Evolves s (s.moveNotices sf b a p c) := by
  unfold State.moveNotices
  dsimp only
  split
  · have h := (s.notifyAt_evolves b.owner (.surfaceLost sf a.appTag p (b.owner.getD s.own) c)).trans
      (State.notifyAt_evolves _ a.owner (.surfaceGained sf a.appTag p
        (a.owner.getD (s.notifyAt b.owner (.surfaceLost sf a.appTag p (b.owner.getD s.own) c)).own) c))
    split
    · exact h.trans (State.notifyAt_evolves _ _ _)
    · exact h
  · split
    · exact s.notifyAt_evolves _ _
    · exact Evolves.refl s

theorem State.evacuateTo_evolves (s : State) (sf : Surf) (t : Target) : Evolves s (s.evacuateTo sf t) :=
  Evolves.trans (Evolves.refl s) (State.moveNotices_evolves _ _ _ _ _ _)

theorem State.evacuateSurface_evolves (s : State) (t : Target) (sf : Surf) : Evolves s (s.evacuateSurface t sf) := by
  unfold State.evacuateSurface
  dsimp only
  have h := s.unlockRehomed_evolves sf
  generalize s.unlockRehomed sf = u at h ⊢
  split
  · exact h.trans (u.evacuateTo_evolves _ _)
  · exact h.trans (u.parkSurface_evolves _ _ _)

theorem State.evacuateTarget_evolves (s : State) (t : Target) : Evolves s (s.evacuateTarget t) := by
  unfold State.evacuateTarget
  split
  · exact Evolves.refl s
  · exact Evolves.foldl (fun u sf => u.evacuateSurface_evolves t sf) _ (Evolves.refl s)

theorem State.evacuate_evolves (s : State) : Evolves s s.evacuate :=
  Evolves.foldl (fun u t => u.evacuateTarget_evolves t) _ (Evolves.refl s)

theorem State.restoreSurface_evolves (s : State) (sf : Surf) : Evolves s (s.restoreSurface sf) := by
  unfold State.restoreSurface
  split
  · split
    · exact s.setSurface_evolves _ _
    · unfold State.restoreTo
      dsimp only
      split
      · exact Evolves.trans (Evolves.refl s) (State.moveNotices_evolves _ _ _ _ _ _)
      · exact Evolves.refl s
  · exact Evolves.refl s

theorem State.restore_evolves (s : State) : Evolves s s.restore :=
  Evolves.foldl (fun u sf => u.restoreSurface_evolves sf) _ (Evolves.refl s)

theorem State.timeoutSurface_evolves (s : State) (sf : Surf) : Evolves s (s.timeoutSurface sf) :=
  (s.unlockRehomed_evolves sf).trans (State.parkSurface_evolves _ _ _ _)

theorem State.countSurface_evolves (s : State) (sf : Surf) : Evolves s (s.countSurface sf) := by
  unfold State.countSurface
  split
  · split
    · exact s.timeoutSurface_evolves sf
    · exact s.setSurface_evolves _ _
  · exact Evolves.refl s

theorem State.countArrivals_evolves (s : State) : Evolves s s.countArrivals :=
  Evolves.foldl (fun u sf => u.countSurface_evolves sf) _ (Evolves.refl s)

/-- The re-home pass evolves the state. -/
theorem State.rehomePass_evolves (s : State) : Evolves s s.rehomePass := by
  unfold State.rehomePass
  split
  · exact (s.countArrivals_evolves.trans (State.evacuate_evolves _)).trans (State.restore_evolves _)
  · exact Evolves.refl s

theorem State.timeoutArrivals_evolves (s : State) : Evolves s s.timeoutArrivals := by
  refine Evolves.foldl (fun u sf => ?_) _ (Evolves.refl s)
  split
  · exact u.timeoutSurface_evolves sf
  · exact Evolves.refl u

/-! ### Posture evaluation -/

theorem State.staleOut_evolves (s : State) : Evolves s s.staleOut :=
  Evolves.trans (Evolves.refl s) (State.setPosture_evolves _ _ _)

theorem State.countStale_evolves (s : State) : Evolves s s.countStale := by
  unfold State.countStale
  dsimp only
  split
  · exact Evolves.trans (Evolves.refl s) (State.staleOut_evolves _)
  · exact Evolves.refl s

theorem State.stepMonitor_evolves (s : State) : Evolves s s.stepMonitor := by
  unfold State.stepMonitor State.stepEpisode
  dsimp only
  split
  · split
    · exact Evolves.trans (Evolves.refl s) (State.notify_evolves _ _)
    · split
      · exact Evolves.trans (Evolves.refl s) (State.notify_evolves _ _)
      · exact Evolves.refl s
  · exact Evolves.refl s

theorem State.dwellComplete_evolves (s : State) : Evolves s s.dwellComplete := by
  unfold State.dwellComplete
  split
  · split
    · exact Evolves.trans (Evolves.refl s) (State.setPosture_evolves _ _ _)
    · exact Evolves.refl s
  · exact Evolves.refl s

theorem State.stepPosture_evolves (s : State) (a : Nat) : Evolves s (s.stepPosture a) := by
  unfold State.stepPosture
  split
  · exact Evolves.refl s
  · exact Evolves.trans (Evolves.refl s) (State.dwellComplete_evolves _)

theorem State.evaluate_evolves (s : State) : Evolves s s.evaluate := by
  unfold State.evaluate
  have h : Evolves s (if s.ctl.linkState.present = true then s.evaluateSamples else s) := by
    split
    · unfold State.evaluateSamples
      dsimp only
      split
      · refine Evolves.trans (Evolves.trans ?_ (State.stepMonitor_evolves _)) (State.stepPosture_evolves _ _)
        exact Evolves.refl s
      · refine Evolves.trans (Evolves.trans ?_ (State.countStale_evolves _)) (State.stepMonitor_evolves _)
        exact Evolves.refl s
    · exact Evolves.refl s
  generalize (if s.ctl.linkState.present = true then s.evaluateSamples else s) = u at h ⊢
  exact h.trans (Evolves.refl u)

/-! ### Tail start -/

theorem State.countSilence_evolves (s : State) : Evolves s s.countSilence := Evolves.refl s

theorem State.declareLosses_evolves (s : State) : Evolves s s.declareLosses := by
  refine Evolves.foldl (fun u k => ?_) _ (Evolves.refl s)
  split
  · exact u.declareLost_evolves _ _
  · exact Evolves.refl u

theorem State.countSync_evolves (s : State) : Evolves s s.countSync := by
  unfold State.countSync
  split
  · next p _ =>
    split
    · dsimp only
      generalize (if memSet s.ctl.syncMissed p = true then s.ctl.syncMissCount + 1 else 0) = n
      split
      · exact (Evolves.trans (t := { s with ctl := { s.ctl with syncMissCount := n } }) (Evolves.refl s)
          (State.logError_evolves _ .syncLost p)).trans (State.detach_evolves _ _ _)
      · exact Evolves.refl s
    · exact Evolves.refl s
  · exact Evolves.refl s

theorem State.checkPace_evolves (s : State) : Evolves s s.checkPace := by
  unfold State.checkPace
  split
  · split
    · exact s.detach_evolves _ _
    · exact Evolves.refl s
  · split
    · exact s.detach_evolves _ _
    · exact Evolves.refl s
  all_goals exact Evolves.refl s

theorem State.listenExpired_evolves (s : State) : Evolves s s.listenExpired := by
  unfold State.listenExpired
  split
  · next h =>
    refine Evolves.trans ?_ (State.enterLink_evolves _ .coldstart _ ?_ ?_)
    · exact Evolves.refl s
    · dsimp only; rw [h.1]; rfl
    · dsimp only; rw [h.1]; intro w; cases w
  · exact Evolves.refl s

theorem State.coldstartDone_evolves (s : State) : Evolves s s.coldstartDone := by
  unfold State.coldstartDone
  split
  · next h =>
    exact Evolves.trans (t := { s with rx := { s.rx with freeUntil := some tailStartTime } }) (Evolves.refl s)
      (State.becomeActiveEmpty_evolves _ _ (by rw [h.1]; exact LinkState.noConfusion))
  · exact Evolves.refl s

theorem State.checkPassed_evolves (s : State) (h : s.ctl.linkState = .integrating) : Evolves s s.checkPassed := by
  unfold State.checkPassed
  split
  · refine Evolves.trans ?_ (State.enqueueControl_evolves _ _ rfl)
    exact Evolves.refl s
  · exact s.becomeActiveEmpty_evolves _ (by rw [h]; exact LinkState.noConfusion)

theorem State.configCheck_evolves (s : State) (h : s.ctl.linkState = .integrating) : Evolves s s.configCheck := by
  unfold State.configCheck
  split
  · exact Evolves.refl s
  · split
    · split
      · exact s.checkPassed_evolves h
      · unfold State.checkFailed
        split
        · exact Evolves.refl s
        · exact Evolves.trans (Evolves.refl s) (State.notify_evolves _ _)
    · exact s.checkPassed_evolves h

theorem State.abandonJoin_evolves (s : State) (h : s.ctl.linkState = .integrating) : Evolves s s.abandonJoin := by
  have hf : s.FreezeFlagMeans → s.div.freezeFlag = true → False := by
    intro g w
    have := (g w).1
    rw [h] at this
    cases this
  refine Evolves.trans (t := { s with
    ctl := { s.ctl with joinPending := false }
    div := { s.div with dumpState := .none, attempts := 0, freezeCount := 0, freezeGiver := none } })
    ⟨rfl, id, id, id, id, (fun g w => (hf g w).elim), id⟩ (State.becomeActiveEmpty_evolves _ .integrated ?_)
  dsimp only
  rw [h]
  exact LinkState.noConfusion

theorem State.integrated_evolves (s : State) : Evolves s s.integrated := by
  unfold State.integrated
  split
  · next h =>
    have hne : s.ctl.linkState ≠ .halted := by rw [h.1]; exact LinkState.noConfusion
    split
    · exact s.becomeActiveEmpty_evolves _ hne
    · split
      · split
        · exact Evolves.refl s
        · exact s.abandonJoin_evolves h.1
      · exact s.configCheck_evolves h.1
  · exact Evolves.refl s

theorem State.stationTail_evolves (s : State) (began : LinkState) : Evolves s (s.stationTail began) := by
  unfold State.stationTail
  split
  · exact Evolves.refl s
  · split
    · exact Evolves.trans (Evolves.refl s) (State.listenExpired_evolves _)
    · exact Evolves.trans (Evolves.refl s) (State.coldstartDone_evolves _)
    · exact Evolves.trans (t := s.countIntegration) (Evolves.refl s) (State.integrated_evolves _)
    all_goals exact Evolves.refl s

theorem State.takeReference_evolves (s : State) : Evolves s s.takeReference := by
  unfold State.takeReference
  split <;> exact Evolves.refl s

/-- What entry to RESYNC withdraws (R23, R93) evolves the state. -/
theorem State.endForResync_evolves (s : State) (l : List (TxnId × Surf)) : Evolves s (s.endForResync l) := by
  unfold State.endForResync
  dsimp only
  have h := s.notifyAll_evolves l (fun c => .txnDone c.1 c.2 .resync)
  generalize l.foldl (fun s c => s.notify (.txnDone c.1 c.2 .resync)) s = u at h ⊢
  refine h.trans ⟨rfl, id, id, id, id, id, fun g =>
    ⟨Nat.le_trans ?_ g.1, fun m hm => g.2 m (List.mem_filter.mp hm).1⟩⟩
  simp only [State.holdingShared, State.holding, State.packed, Pool.queued, List.length_nil]
  omega

theorem State.diverge_evolves (s : State) (h : s.ctl.linkState = .active) : Evolves s s.diverge := by
  unfold State.diverge
  dsimp only
  have h1 := s.enterLink_evolves .resync .diverged (by rw [h]; rfl) (fun _ => rfl)
  generalize s.enterLink .resync .diverged = u at h1 ⊢
  have h2 := h1.trans (u.endForResync_evolves s.counted)
  generalize u.endForResync s.counted = v at h2 ⊢
  refine h2.trans (Evolves.trans ?_ (State.enqueueControl_evolves _ _ rfl))
  exact Evolves.refl v

theorem State.activePanel_active {s : State} (h : s.activePanel = true) : s.ctl.linkState = .active := by
  unfold State.activePanel at h
  simp at h
  exact h.2

theorem State.compareDigest_evolves (s : State) : Evolves s s.compareDigest := by
  unfold State.compareDigest
  split
  · next h _ _ =>
    split
    · exact Evolves.refl s
    · exact s.diverge_evolves (State.activePanel_active h)
  · exact Evolves.refl s

theorem State.takeGiver_evolves (s : State) : Evolves s s.takeGiver := by
  unfold State.takeGiver
  split
  · dsimp only
    split
    · exact Evolves.trans (t := { s with div := { s.div with freezeGiver := s.div.giverCandidate } }) (Evolves.refl s)
        (State.failAttempt_evolves _)
    · exact Evolves.refl s
  · exact Evolves.refl s

theorem State.freezeLimit_evolves (s : State) : Evolves s s.freezeLimit := by
  unfold State.freezeLimit
  split
  · split
    · exact s.endFreeze_evolves.trans (State.failAttempt_evolves _)
    · exact s.endFreeze_evolves
  · exact Evolves.refl s

theorem State.expireEntries_evolves (s : State) : Evolves s s.expireEntries := by
  unfold State.expireEntries
  split
  · exact s.removeWhere_evolves _ _
  · exact Evolves.refl s

theorem State.countDeadlines_evolves (s : State) : Evolves s s.countDeadlines := by
  unfold State.countDeadlines
  split
  · exact Evolves.trans (Evolves.refl s) (State.expireEntries_evolves _)
  · exact Evolves.refl s

theorem State.expireOffers_evolves (s : State) : Evolves s s.expireOffers := by
  unfold State.expireOffers
  split
  · refine Evolves.foldl (f := State.expireOffer) (fun u o => ?_) _ (Evolves.refl s)
    refine Evolves.trans ?_ (State.enqueueControl_evolves _ _ rfl)
    exact Evolves.refl u
  · exact Evolves.refl s

theorem State.countOffers_evolves (s : State) : Evolves s s.countOffers := by
  unfold State.countOffers
  split
  · exact Evolves.trans (Evolves.refl s) (State.expireOffers_evolves _)
  · exact Evolves.refl s

theorem State.dropAged_evolves (s : State) : Evolves s s.dropAged :=
  Evolves.foldl (fun t _ => t.drop_evolves _ _ _ _) _
    (s.shrink_evolves { s.pool with relay := s.pool.relay.filter (fun r => !(s.port.cfg.relayAgeLimit ≤ r.age)) }
      (Nat.le_refl _) (Nat.le_refl _) (List.length_filter_le _ _) (fun _ hm => Or.inl hm))

theorem State.ageRelays_evolves (s : State) : Evolves s s.ageRelays :=
  Evolves.trans
    (s.shrink_evolves { s.pool with relay := s.pool.relay.map (fun r => { r with age := r.age + 1 }) } (Nat.le_refl _)
      (Nat.le_refl _) (by simp) (fun _ hm => Or.inl hm)) (State.dropAged_evolves _)

/-! ### The panel controller -/

/-- A change of the panel's own state that keeps the miss count and the degraded flag. -/
theorem State.panel_evolves (s : State) (p : PanelUnit) (h1 : p.missCount = s.panel.missCount)
    (h2 : p.degraded = s.panel.degraded) : Evolves s { s with panel := p } := by
  refine ⟨rfl, id, id, id, fun h => ?_, id, id⟩
  unfold State.DegradedAtThree at *
  dsimp only
  rw [h1, h2]
  exact h

theorem State.refuseBlank_evolves (s : State) : Evolves s s.refuseBlank :=
  (s.panel_evolves { s.panel with state := .lit } rfl rfl).trans (State.notify_evolves _ _)

theorem State.blankTail_evolves (s : State) : Evolves s s.blankTail := by
  unfold State.blankTail
  split
  · split
    · exact s.panel_evolves _ rfl rfl
    · refine (s.panel_evolves { s.panel with blankWait := s.panel.blankWait - 1 } rfl rfl).trans ?_
      unfold State.blankExpired
      split
      · exact State.refuseBlank_evolves _
      · exact Evolves.refl _
  · exact Evolves.refl s

theorem State.blankExpired_evolves (s : State) : Evolves s s.blankExpired := by
  unfold State.blankExpired
  split
  · exact s.refuseBlank_evolves
  · exact Evolves.refl s

/-- A missed latch keeps the degraded flag at the third miss (R174, R175). -/
theorem State.settleLatch_evolves (s : State) : Evolves s s.settleLatch := by
  unfold State.settleLatch
  split
  · exact Evolves.refl s
  · dsimp only
    split
    · next h =>
      refine Evolves.trans (t := { s with panel := { s.panel with
        outstanding := none, missCount := s.panel.missCount + 1
        degraded := s.panel.degraded || s.panel.missCount + 1 == 3 } }) ⟨rfl, id, id, id, fun g => ?_, id, id⟩
        (State.notify_evolves _ _)
      unfold State.DegradedAtThree at *
      dsimp only
      rw [g.2]
      have h3 : (s.panel.missCount == 3) = false := by simp; omega
      rw [h3]
      exact ⟨h, by simp⟩
    · exact s.panel_evolves _ rfl rfl

theorem State.latch_evolves (s : State) : Evolves s s.latch := by
  unfold State.latch
  split
  · dsimp only
    have h : Evolves s { s with panel := { s.panel with outstanding := none, missCount := 0, degraded := false } } :=
      ⟨rfl, id, id, id, fun _ => ⟨Nat.zero_le 3, rfl⟩, id, id⟩
    split
    · exact h.trans (State.notify_evolves _ _)
    · exact h
  · exact Evolves.refl s

theorem State.wakeExpired_evolves (s : State) : Evolves s s.wakeExpired := by
  unfold State.wakeExpired
  split
  · exact (s.panel_evolves { s.panel with state := .lit } rfl rfl).trans (State.notify_evolves _ _)
  · exact Evolves.refl s

theorem State.darken_evolves (s : State) : Evolves s s.darken := by
  unfold State.darken
  split
  · exact (s.panel_evolves { s.panel with state := .dark, darkMark := false } rfl rfl).trans (State.notify_evolves _ _)
  · dsimp only
    split
    · exact (s.panel_evolves { s.panel with darkMark := false } rfl rfl).trans (State.refuseBlank_evolves _)
    · exact s.panel_evolves _ rfl rfl

theorem State.panelChanges_evolves (s : State) : Evolves s s.panelChanges := by
  unfold State.panelChanges
  split
  · split
    · exact s.darken_evolves
    · exact Evolves.refl s
  · exact (s.panel_evolves { s.panel with wakeCount := s.panel.wakeCount - 1 } rfl rfl).trans
      (State.wakeExpired_evolves _)
  all_goals exact Evolves.refl s

theorem State.sendList_evolves (s : State) : Evolves s s.sendList := s.panel_evolves _ rfl rfl

theorem State.sendTransfer_evolves (s : State) (b : Bool) : Evolves s (s.sendTransfer b) := by
  unfold State.sendTransfer
  split
  · exact s.sendList_evolves
  · exact s.sendList_evolves
  · split
    · exact Evolves.refl s
    · exact s.panel_evolves _ rfl rfl
  · exact Evolves.refl s

theorem State.panelCycleStart_evolves (s : State) : Evolves s s.panelCycleStart := by
  unfold State.panelCycleStart
  split
  · dsimp only
    have h := s.settleLatch_evolves.trans (State.panelChanges_evolves _)
    generalize s.settleLatch.panelChanges = u at h ⊢
    exact (h.trans (u.panel_evolves _ rfl rfl)).trans (State.sendTransfer_evolves _ _)
  · exact Evolves.refl s

/-- A work of a tail start evolves the state. -/
theorem State.tailWork_evolves (began : LinkState) (s : State) (w : TailWork) : Evolves s (s.tailWork began w) := by
  cases w
  · exact s.countSilence_evolves
  · exact s.declareLosses_evolves
  · exact s.countSync_evolves
  · exact s.checkPace_evolves
  · exact s.stationTail_evolves began
  · exact s.evaluate_evolves
  · exact s.takeReference_evolves
  · exact s.compareDigest_evolves
  · exact s.takeGiver_evolves
  · exact s.freezeLimit_evolves
  · exact s.countDeadlines_evolves
  · exact s.countOffers_evolves
  · exact s.ageRelays_evolves
  · exact s.blankTail_evolves

/-! ### Cycle start -/

theorem State.freezeCycleStart_evolves (s : State) : Evolves s s.freezeCycleStart := by
  unfold State.freezeCycleStart
  split
  · split
    · exact ⟨rfl, id, id, id, id, (fun _ w => ⟨w, Nat.one_ne_zero⟩), id⟩
    · refine ⟨rfl, id, id, id, id, (fun g w => ⟨(g w).1, ?_⟩), id⟩
      have h0 := (g w).2
      dsimp only
      rw [if_neg h0]
      omega
  · exact Evolves.refl s

/-- The blocks' work at a cycle start evolves the state. -/
theorem State.cycleStart_evolves (s : State) (b : Bool) : Evolves s (s.cycleStart b) := by
  unfold State.cycleStart
  dsimp only
  have h : Evolves s s.beginCycle.formSample.formDigest.freezeCycleStart :=
    Evolves.trans (t := s.beginCycle.formSample.formDigest) (Evolves.refl s) (State.freezeCycleStart_evolves _)
  generalize s.beginCycle.formSample.formDigest.freezeCycleStart = u at h ⊢
  split
  · exact (h.trans (Evolves.trans (t := u.readRelayHold) (Evolves.refl u) (State.panelCycleStart_evolves _)))
  · have g := h.trans u.panelCycleStart_evolves
    generalize u.panelCycleStart = v at g ⊢
    exact g.trans (Evolves.refl v)

end Sys2Proof.Machine
end

