-- ==== Sys2Proof/Laws/Commands.lean ====
section
/-! SUPPORT. Packing and the commands of the local port evolve the state. -/

namespace Sys2Proof.Machine

/-! ### Packing (R145, R154): a message taken keeps its buffer -/

/-- The shared messages of a packing: those left in the queues and those taken. -/
def Packing.shared (p : Packing) : Nat :=
  p.pool.transaction.length + p.pool.state.length + p.pool.relay.length
    + (p.msgs.countP (fun m => m.sharedClass == some .transaction) + p.msgs.countP (fun m => m.sharedClass == some .state)
      + p.msgs.countP (fun m => m.sharedClass == some .relay))

/-- The three shared classes of messages do not overlap. -/
theorem countP_shared_le (ms : List Msg) :
    ms.countP (fun m => m.sharedClass == some .transaction) + ms.countP (fun m => m.sharedClass == some .state)
      + ms.countP (fun m => m.sharedClass == some .relay) ≤ ms.length := by
  induction ms with
  | nil => simp
  | cons m ms ih =>
    simp only [List.countP_cons, List.length_cons]
    cases hm : m.sharedClass with
    | none => simp; omega
    | some c => cases c <;> simp <;> omega

/-- Messages outside the shared classes count for none. -/
theorem countP_shared_zero {ms : List Msg} (h : ∀ m ∈ ms, m.sharedClass = none) :
    ms.countP (fun m => m.sharedClass == some .transaction) + ms.countP (fun m => m.sharedClass == some .state)
      + ms.countP (fun m => m.sharedClass == some .relay) = 0 := by
  have hz : ∀ c : SharedClass, ms.countP (fun m => m.sharedClass == some c) = 0 :=
    fun c => List.countP_eq_zero.mpr (fun m hm => by simp [h m hm])
  simp only [hz]

theorem Packing.add_pool (p : Packing) (ms : List Msg) : (p.add ms).pool = p.pool := rfl

theorem Packing.add_msgs (p : Packing) (ms : List Msg) : (p.add ms).msgs = p.msgs ++ ms := rfl

/-- Relays taken and relays left together are the queue. -/
theorem splitRelays_length (held : Station → Bool) (n : Nat) (rs : List RelayMsg) :
    (splitRelays held n rs).1.length + (splitRelays held n rs).2.length = rs.length ∧
      (splitRelays held n rs).1.length ≤ n := by
  induction rs generalizing n with
  | nil => cases n <;> simp [splitRelays]
  | cons r rs ih =>
    cases n with
    | zero => simp [splitRelays]
    | succ n =>
      unfold splitRelays
      split
      · have := ih (n + 1)
        simp only [List.length_cons]
        omega
      · have := ih n
        simp only [List.length_cons]
        omega

/-- The relays taken are the first of the free ones. -/
theorem splitRelays_taken (held : Station → Bool) (n : Nat) (rs : List RelayMsg) :
    (splitRelays held n rs).1 = (rs.filter (fun r => !held r.dest)).take n := by
  induction rs generalizing n with
  | nil => cases n <;> rfl
  | cons r rs ih =>
    cases n with
    | zero => simp [splitRelays]
    | succ n => by_cases h : held r.dest = true <;> simp [splitRelays, h, ih]

/-- The free relays left are the rest of the free ones. -/
theorem splitRelays_free (held : Station → Bool) (n : Nat) (rs : List RelayMsg) :
    (splitRelays held n rs).2.filter (fun r => !held r.dest) = (rs.filter (fun r => !held r.dest)).drop n := by
  induction rs generalizing n with
  | nil => cases n <;> rfl
  | cons r rs ih =>
    cases n with
    | zero => simp [splitRelays]
    | succ n => by_cases h : held r.dest = true <;> simp [splitRelays, h, ih]

/-- The held relays are all left. -/
theorem splitRelays_held (held : Station → Bool) (n : Nat) (rs : List RelayMsg) :
    (splitRelays held n rs).2.filter (fun r => held r.dest) = rs.filter (fun r => held r.dest) := by
  induction rs generalizing n with
  | nil => cases n <;> rfl
  | cons r rs ih =>
    cases n with
    | zero => rfl
    | succ n => by_cases h : held r.dest = true <;> simp [splitRelays, h, ih]

/-- What is left of a relay queue keeps its order. -/
theorem splitRelays_sublist (held : Station → Bool) (n : Nat) (rs : List RelayMsg) :
    (splitRelays held n rs).2.Sublist rs := by
  induction rs generalizing n with
  | nil => cases n <;> exact List.Sublist.refl _
  | cons r rs ih =>
    cases n with
    | zero => exact List.Sublist.refl _
    | succ n =>
      by_cases h : held r.dest = true
      · simpa [splitRelays, h] using (ih (n + 1)).cons_cons r
      · simpa [splitRelays, h] using (ih n).cons r

/-- TRANSACTION messages taken do not raise the shared messages. -/
theorem Packing.takeTransaction_shared (n : Nat) (p : Packing) : (p.takeTransaction n).shared ≤ p.shared := by
  have hc := countP_shared_le (p.pool.transaction.take (min n p.places))
  have hl : (p.pool.transaction.take (min n p.places)).length + (p.pool.transaction.drop (min n p.places)).length
      = p.pool.transaction.length := by
    simp only [List.length_take, List.length_drop]
    omega
  simp only [Packing.shared, Packing.takeTransaction, Packing.add, List.countP_append]
  omega

theorem Packing.takeState_shared (n : Nat) (p : Packing) : (p.takeState n).shared ≤ p.shared := by
  have hc := countP_shared_le (p.pool.state.take (min n p.places))
  have hl : (p.pool.state.take (min n p.places)).length + (p.pool.state.drop (min n p.places)).length
      = p.pool.state.length := by
    simp only [List.length_take, List.length_drop]
    omega
  simp only [Packing.shared, Packing.takeState, Packing.add, List.countP_append]
  omega

theorem Packing.takeRelays_shared (held : Station → Bool) (n : Nat) (p : Packing) :
    (p.takeRelays held n).shared ≤ p.shared := by
  have hs := (splitRelays_length held (min n (min p.places p.relays)) p.pool.relay).1
  have hc := countP_shared_le
    ((splitRelays held (min n (min p.places p.relays)) p.pool.relay).1.map (fun r => Msg.relay r.dest r.payload))
  rw [List.length_map] at hc
  simp only [Packing.shared, Packing.takeRelays, Packing.add, List.countP_append]
  omega

theorem Packing.takeControl_shared (p : Packing) (h : ∀ m ∈ p.pool.control, m.sharedClass = none) :
    p.takeControl.shared = p.shared := by
  have hz := countP_shared_zero (ms := p.pool.control.take p.places) (fun m hm => h m (List.mem_of_mem_take hm))
  simp only [Packing.shared, Packing.takeControl, Packing.add, List.countP_append]
  omega

theorem Packing.round_shared (c : ConfigItems) (held : Station → Bool) (p : Packing) :
    (p.round c held).shared ≤ p.shared :=
  Nat.le_trans (Packing.takeRelays_shared _ _ _)
    (Nat.le_trans (Packing.takeState_shared _ _) (Packing.takeTransaction_shared _ _))

theorem Packing.weighted_shared (c : ConfigItems) (held : Station → Bool) (n : Nat) (p : Packing) :
    (p.weighted c held n).shared ≤ p.shared := by
  induction n generalizing p with
  | zero => exact Nat.le_refl _
  | succ n ih =>
    unfold Packing.weighted
    dsimp only
    split
    · exact p.round_shared c held
    · exact Nat.le_trans (ih _) (p.round_shared c held)

theorem Packing.fixed_shared (held : Station → Bool) (p : Packing) : (p.fixed held).shared ≤ p.shared :=
  Nat.le_trans (Packing.takeRelays_shared _ _ _)
    (Nat.le_trans (Packing.takeState_shared _ _) (Packing.takeTransaction_shared _ _))

/-- A dump item is of no shared class. -/
theorem State.dumpItem_class {s : State} {c d : DumpCursor} {m : Msg} (h : s.dumpItem c = some (m, d)) :
    m.sharedClass = none := by
  unfold State.dumpItem at h
  cases c <;> simp at h
  · rw [← h.1]; rfl
  · rw [← h.1]; rfl

theorem State.packDump_shared (s : State) (n : Nat) (p : Packing) :
    (s.packDump n p).shared = p.shared ∧ (s.packDump n p).pool = p.pool := by
  induction n generalizing p with
  | zero => exact ⟨rfl, rfl⟩
  | succ n ih =>
    unfold State.packDump
    split
    · next m c hm =>
      have h := ih { p.add [m] with cursor := c }
      have hz := countP_shared_zero (ms := [m]) (by
        intro x hx
        rw [List.mem_singleton] at hx
        exact hx ▸ State.dumpItem_class hm)
      refine ⟨h.1.trans ?_, h.2⟩
      simp only [Packing.shared, Packing.add, List.countP_append]
      omega
    · exact ⟨rfl, rfl⟩

/-! ### Places (R154) -/

/-- The messages taken and the places left are together the six places of a frame. -/
def Packing.Fits (p : Packing) : Prop := p.msgs.length + p.places = 6

theorem Packing.add_fits {p : Packing} {ms : List Msg} (h : p.Fits) (hl : ms.length ≤ p.places) : (p.add ms).Fits := by
  simp only [Packing.Fits, Packing.add, List.length_append] at *
  omega

theorem Packing.takeTransaction_fits (n : Nat) {p : Packing} (h : p.Fits) : (p.takeTransaction n).Fits :=
  Packing.add_fits (p := p) h (Nat.le_trans (List.length_take_le _ _) (Nat.min_le_right _ _))

theorem Packing.takeState_fits (n : Nat) {p : Packing} (h : p.Fits) : (p.takeState n).Fits :=
  Packing.add_fits (p := p) h (Nat.le_trans (List.length_take_le _ _) (Nat.min_le_right _ _))

theorem Packing.takeControl_fits {p : Packing} (h : p.Fits) : p.takeControl.Fits :=
  Packing.add_fits (p := p) h (List.length_take_le _ _)

theorem Packing.takeRelays_fits (held : Station → Bool) (n : Nat) {p : Packing} (h : p.Fits) :
    (p.takeRelays held n).Fits := by
  refine Packing.add_fits (p := p) h ?_
  have := (splitRelays_length held (min n (min p.places p.relays)) p.pool.relay).2
  rw [List.length_map]
  omega

theorem Packing.round_fits (c : ConfigItems) (held : Station → Bool) {p : Packing} (h : p.Fits) :
    (p.round c held).Fits :=
  Packing.takeRelays_fits held _ (Packing.takeState_fits _ (Packing.takeTransaction_fits _ h))

theorem Packing.fixed_fits (held : Station → Bool) {p : Packing} (h : p.Fits) : (p.fixed held).Fits :=
  Packing.takeRelays_fits held _ (Packing.takeState_fits _ (Packing.takeTransaction_fits _ h))

theorem Packing.weighted_fits (c : ConfigItems) (held : Station → Bool) (n : Nat) {p : Packing} (h : p.Fits) :
    (p.weighted c held n).Fits := by
  induction n generalizing p with
  | zero => exact h
  | succ n ih =>
    unfold Packing.weighted
    dsimp only
    split
    · exact Packing.round_fits c held h
    · exact ih (Packing.round_fits c held h)

theorem State.packDump_fits (s : State) (n : Nat) {p : Packing} (h : p.Fits) (hn : n ≤ p.places) :
    (s.packDump n p).Fits := by
  induction n generalizing p with
  | zero => exact h
  | succ n ih =>
    unfold State.packDump
    split
    · next m c _ =>
      refine ih (p := { p.add [m] with cursor := c }) (Packing.add_fits (p := p) h (by simp; omega)) ?_
      simp only [Packing.add, List.length_singleton]
      omega
    · exact h

/-- A frame never carries more than six messages (R154). -/
theorem State.packFrame_fits (s : State) : s.packFrame.msgs.length ≤ 6 := by
  have h0 : Packing.Fits ⟨s.pool, s.div.cursor, [], 6, s.port.cfg.relayCap⟩ := rfl
  have h : s.packFrame.Fits := by
    unfold State.packFrame
    dsimp only
    have h1 : Packing.Fits (if s.givesDump = true then s.packDump 4 ⟨s.pool, s.div.cursor, [], 6, s.port.cfg.relayCap⟩
        else ⟨s.pool, s.div.cursor, [], 6, s.port.cfg.relayCap⟩) := by
      split
      · exact s.packDump_fits 4 h0 (by simp)
      · exact h0
    generalize (if s.givesDump = true then s.packDump 4 ⟨s.pool, s.div.cursor, [], 6, s.port.cfg.relayCap⟩
        else ⟨s.pool, s.div.cursor, [], 6, s.port.cfg.relayCap⟩) = p at h1 ⊢
    split
    · exact Packing.weighted_fits _ _ _ (Packing.takeControl_fits h1)
    · exact Packing.fixed_fits _ (Packing.takeControl_fits h1)
  unfold Packing.Fits at h
  omega

/-- The messages chosen for a frame do not raise the shared messages, where CONTROL holds no shared message. -/
theorem State.packFrame_shared (s : State) (h : ∀ m ∈ s.pool.control, m.sharedClass = none) :
    s.packFrame.shared ≤ s.pool.transaction.length + s.pool.state.length + s.pool.relay.length := by
  unfold State.packFrame
  dsimp only
  have h1 : Packing.shared (if s.givesDump = true then s.packDump 4 ⟨s.pool, s.div.cursor, [], 6, s.port.cfg.relayCap⟩
      else ⟨s.pool, s.div.cursor, [], 6, s.port.cfg.relayCap⟩)
        = s.pool.transaction.length + s.pool.state.length + s.pool.relay.length ∧
      Packing.pool (if s.givesDump = true then s.packDump 4 ⟨s.pool, s.div.cursor, [], 6, s.port.cfg.relayCap⟩
      else ⟨s.pool, s.div.cursor, [], 6, s.port.cfg.relayCap⟩) = s.pool := by
    split
    · have hp := s.packDump_shared 4 ⟨s.pool, s.div.cursor, [], 6, s.port.cfg.relayCap⟩
      exact ⟨hp.1.trans rfl, hp.2⟩
    · exact ⟨rfl, rfl⟩
  generalize (if s.givesDump = true then s.packDump 4 ⟨s.pool, s.div.cursor, [], 6, s.port.cfg.relayCap⟩
      else ⟨s.pool, s.div.cursor, [], 6, s.port.cfg.relayCap⟩) = p at h1 ⊢
  have h2 : p.takeControl.shared = p.shared := p.takeControl_shared (by rw [h1.2]; exact h)
  split
  · exact Nat.le_trans (Packing.weighted_shared _ _ _ _) (Nat.le_of_eq (h2.trans h1.1))
  · exact Nat.le_trans (Packing.fixed_shared _ _) (Nat.le_of_eq (h2.trans h1.1))

theorem Msg.isControl_class {m : Msg} (h : m.isControl = true) : m.sharedClass = none := by
  cases m <;> first | rfl | cases h

/-- Taking from the queues leaves only CONTROL messages in the CONTROL queue. -/
def Packing.ControlIn (q : Pool) (p : Packing) : Prop := ∀ m ∈ p.pool.control, m ∈ q.control

theorem Packing.round_control (c : ConfigItems) (held : Station → Bool) (p : Packing) :
    (p.round c held).pool.control = p.pool.control := rfl

theorem Packing.weighted_control (c : ConfigItems) (held : Station → Bool) (n : Nat) (p : Packing) :
    (p.weighted c held n).pool.control = p.pool.control := by
  induction n generalizing p with
  | zero => rfl
  | succ n ih =>
    unfold Packing.weighted
    dsimp only
    split
    · rfl
    · rw [ih]; rfl

theorem State.packFrame_control (s : State) : ∀ m ∈ s.packFrame.pool.control, m ∈ s.pool.control := by
  unfold State.packFrame
  dsimp only
  have h1 : Packing.pool (if s.givesDump = true then s.packDump 4 ⟨s.pool, s.div.cursor, [], 6, s.port.cfg.relayCap⟩
      else ⟨s.pool, s.div.cursor, [], 6, s.port.cfg.relayCap⟩) = s.pool := by
    split
    · exact (s.packDump_shared 4 _).2
    · rfl
  generalize (if s.givesDump = true then s.packDump 4 ⟨s.pool, s.div.cursor, [], 6, s.port.cfg.relayCap⟩
      else ⟨s.pool, s.div.cursor, [], 6, s.port.cfg.relayCap⟩) = p at h1 ⊢
  have h2 : ∀ m ∈ p.takeControl.pool.control, m ∈ s.pool.control := by
    intro m hm
    rw [← h1]
    exact List.mem_of_mem_drop hm
  split
  · rw [Packing.weighted_control]; exact h2
  · exact h2

/-- A frame that begins keeps the shared holdings: what it takes keeps its buffers (R145). -/
theorem State.packOwn_evolves (s : State) (h : s.link.sending = none) : Evolves s s.packOwn := by
  unfold State.packOwn
  split
  · refine ⟨rfl, id, id, id, id, id, fun g => ⟨Nat.le_trans ?_ g.1, g.2⟩⟩
    simp only [State.holdingShared, State.holding, State.packed, Pool.queued, State.send, h, List.countP_nil]
    exact Nat.le_refl _
  · refine ⟨rfl, id, id, id, id, id, fun g => ⟨Nat.le_trans ?_ g.1, fun m hm => g.2 m (s.packFrame_control m hm)⟩⟩
    have hp := s.packFrame_shared (fun m hm => Msg.isControl_class (g.2 m hm))
    simp only [Packing.shared] at hp
    simp only [State.holdingShared, State.holding, State.packed, Pool.queued, State.send, h, List.countP_nil]
    omega

/-! ### The local port -/

/-- A COMMAND evolves the state where its owning rule does. -/
theorem runCommand_evolves (code : Byte) (ok : Bool) (f : State → State × Result) (s : State) (h : Evolves s (f s).1) :
    Evolves s (runCommand code ok f s) := by
  unfold runCommand
  dsimp only
  split
  · generalize f s = r at h ⊢
    exact h.trans (Evolves.refl r.1)
  · exact Evolves.refl s

theorem State.adjust_evolves (s : State) (c : SoftCondition) (code : Byte) (sf : Option Surf) :
    Evolves s (s.adjust c code sf) := Evolves.refl s

theorem State.soft_evolves (s : State) (b : Bool) (c : SoftCondition) (code : Byte) (sf : Option Surf)
    (f : State → State × Result) (h : ∀ t, Evolves t (f t).1) : Evolves s (s.soft b c code sf f).1 := by
  unfold State.soft
  split
  · exact h s
  · split
    · exact Evolves.refl s
    · exact Evolves.trans (t := s.adjust c code sf) (Evolves.refl s) (h _)

theorem State.atActivePanel_evolves (s : State) (r : State × Result) (h : Evolves s r.1) :
    Evolves s (s.atActivePanel r).1 := by
  unfold State.atActivePanel
  split
  · exact Evolves.refl s
  · split
    · exact Evolves.refl s
    · exact h

theorem State.onOwned_evolves (s : State) (b : Byte) (f : Surf → State × Result) (h : ∀ sf, Evolves s (f sf).1) :
    Evolves s (s.onOwned b f).1 := by
  refine s.atActivePanel_evolves _ ?_
  split
  · exact Evolves.refl s
  · split
    · exact Evolves.refl s
    · split
      · exact Evolves.refl s
      · exact h _

theorem State.onUnlocked_evolves (s : State) (b : Byte) (f : Surf → State × Result) (h : ∀ sf, Evolves s (f sf).1) :
    Evolves s (s.onUnlocked b f).1 := by
  refine s.atActivePanel_evolves _ ?_
  split
  · exact Evolves.refl s
  · split
    · exact Evolves.refl s
    · split
      · exact Evolves.refl s
      · exact h _

theorem State.change_evolves (s : State) (code : Byte) (sf : Surf) (b : Bool) (m : Msg) :
    Evolves s (s.change code sf b m).1 := by
  unfold State.change
  split
  · exact s.soft_evolves _ _ _ _ _ (fun t => Evolves.refl t)
  · exact s.enqueueOr_evolves _ _

theorem State.sized_evolves (s : State) (code : Byte) (sf : Option Surf) (r : Option (Region × Bool))
    (m : Region → Msg) : Evolves s (s.sized code sf r m).1 := by
  unfold State.sized
  split
  · exact Evolves.refl s
  · exact s.soft_evolves _ _ _ _ _ (fun t => t.enqueueOr_evolves _ _)

theorem createArgs_evolves (args : List Byte) (s : State) : Evolves s (createArgs args s).1 := by
  unfold createArgs
  split
  · exact s.atActivePanel_evolves _ (s.sized_evolves _ _ _ _)
  · exact Evolves.refl s

theorem surfaceArg_evolves (args : List Byte) (f : Byte → State → State × Result) (s : State)
    (h : ∀ b, Evolves s (f b s).1) : Evolves s (surfaceArg args f s).1 := by
  unfold surfaceArg
  split
  · exact h _
  · exact Evolves.refl s

theorem State.destroySurface_evolves (b : Byte) (s : State) : Evolves s (State.destroySurface b s).1 := by
  refine s.onOwned_evolves b _ (fun sf => ?_)
  split
  · exact Evolves.refl s
  · exact s.enqueueOr_evolves _ _

theorem State.showSurface_evolves (b : Byte) (s : State) : Evolves s (State.showSurface b s).1 :=
  s.onOwned_evolves b _ (fun _ => s.change_evolves _ _ _ _)

theorem State.hideSurface_evolves (b : Byte) (s : State) : Evolves s (State.hideSurface b s).1 :=
  s.onOwned_evolves b _ (fun _ => s.change_evolves _ _ _ _)

theorem State.raiseSurface_evolves (b : Byte) (s : State) : Evolves s (State.raiseSurface b s).1 :=
  s.onOwned_evolves b _ (fun _ => s.change_evolves _ _ _ _)

theorem State.lowerSurface_evolves (b : Byte) (s : State) : Evolves s (State.lowerSurface b s).1 :=
  s.onOwned_evolves b _ (fun _ => s.change_evolves _ _ _ _)

theorem resizeArgs_evolves (args : List Byte) (s : State) : Evolves s (resizeArgs args s).1 := by
  unfold resizeArgs
  split
  · exact s.onOwned_evolves _ _ (fun _ => s.sized_evolves _ _ _ _)
  · exact Evolves.refl s

theorem State.confirmSurface_evolves (b : Byte) (s : State) : Evolves s (State.confirmSurface b s).1 := by
  refine s.onOwned_evolves b _ (fun sf => ?_)
  split
  · exact Evolves.refl s
  · exact s.enqueueOr_evolves _ _

theorem State.propose_evolves (s : State) (m : TxnId → Msg) : Evolves s (s.propose m).1 := by
  unfold State.propose
  dsimp only
  have h := s.request_evolves .transaction (m ⟨s.own, s.txns.seq⟩)
  generalize s.request .transaction (m ⟨s.own, s.txns.seq⟩) = r at h ⊢
  split
  · exact h.trans (Evolves.refl r.1)
  · exact h

theorem moveArgs_evolves (args : List Byte) (s : State) : Evolves s (moveArgs args s).1 := by
  unfold moveArgs
  split
  · refine s.onUnlocked_evolves _ _ (fun sf => ?_)
    unfold State.moveSurface
    split
    · exact Evolves.refl s
    · split
      · exact Evolves.refl s
      · exact s.soft_evolves _ _ _ _ _ (fun t => t.soft_evolves _ _ _ _ _ (fun u => u.propose_evolves _))
  · exact Evolves.refl s

theorem State.returnSurface_evolves (b : Byte) (s : State) : Evolves s (State.returnSurface b s).1 := by
  refine s.onUnlocked_evolves b _ (fun sf => ?_)
  split
  · exact Evolves.refl s
  · split
    · exact Evolves.refl s
    · exact s.propose_evolves _

theorem State.cancelTxn_evolves (s : State) (i : TxnId) : Evolves s (s.cancelTxn i).1 := by
  unfold State.cancelTxn
  split
  · exact Evolves.refl s
  · split
    · refine Evolves.trans ?_ (State.endOwn_evolves _ _ _ _)
      exact s.shrink_evolves { s.pool with transaction := s.pool.transaction.eraseP (Msg.proposes i) }
        (List.length_eraseP_le) (Nat.le_refl _) (Nat.le_refl _) (fun _ hm => Or.inl hm)
    · exact s.enqueueOr_evolves _ _

theorem cancelArgs_evolves (args : List Byte) (s : State) : Evolves s (cancelArgs args s).1 := by
  unfold cancelArgs
  split
  · refine s.atActivePanel_evolves _ ?_
    split
    · exact s.cancelTxn_evolves _
    · exact Evolves.refl s
  · exact Evolves.refl s

theorem State.answerOffer_evolves (s : State) (o q : Byte) (st : OfferState) (m : TxnId → Msg)
    (h : ∀ i, (m i).isControl = true) : Evolves s (s.answerOffer o q st m).1 := by
  refine s.atActivePanel_evolves _ ?_
  split
  · exact Evolves.refl s
  · split
    · refine Evolves.trans ?_ (State.enqueueControl_evolves _ _ (h _))
      exact Evolves.refl s
    · exact Evolves.refl s

theorem acceptArgs_evolves (args : List Byte) (s : State) : Evolves s (acceptArgs args s).1 := by
  unfold acceptArgs
  split
  · exact s.answerOffer_evolves _ _ _ _ (fun _ => rfl)
  · exact Evolves.refl s

theorem declineArgs_evolves (args : List Byte) (s : State) : Evolves s (declineArgs args s).1 := by
  unfold declineArgs
  split
  · exact s.answerOffer_evolves _ _ _ _ (fun _ => rfl)
  · exact Evolves.refl s

theorem relayArgs_evolves (args : List Byte) (s : State) : Evolves s (relayArgs args s).1 := by
  unfold relayArgs
  split
  · unfold State.sendRelay
    split
    · exact Evolves.refl s
    · split
      · exact Evolves.refl s
      · split
        · exact Evolves.refl s
        · split
          · exact Evolves.refl s
          · exact s.enqueueOr_evolves _ _
  · exact Evolves.refl s

theorem State.blank_evolves (s : State) : Evolves s s.blank.1 := by
  unfold State.blank State.blankLit
  dsimp only
  repeat' split
  all_goals exact Evolves.refl s

theorem State.wake_evolves (s : State) : Evolves s s.wake.1 := by
  unfold State.wake
  dsimp only
  repeat' split
  all_goals first
    | exact Evolves.refl s
    | exact s.panel_evolves _ rfl rfl
    | exact (s.panel_evolves { s.panel with state := .lit, blankWait := 0, darkMark := false } rfl rfl).trans
        (State.notify_evolves _ _)

theorem State.leave_evolves (s : State) : Evolves s s.leave.1 := by
  unfold State.leave
  repeat' split
  all_goals first | exact Evolves.refl s | exact s.detach_evolves _ _

theorem State.clearAdjust_evolves (s : State) : Evolves s s.clearAdjust.1 := Evolves.refl s

theorem State.clearLinkLog_evolves (s : State) : Evolves s s.clearLinkLog.1 := Evolves.refl s

/-- START evolves the state: it locks the block as it leaves HALTED. -/
theorem State.start_evolves (s : State) : Evolves s s.start.1 := by
  unfold State.start
  split
  · exact Evolves.refl s
  · next hs =>
    have hs : s.ctl.linkState = .halted := Classical.not_not.mp hs
    split
    · exact Evolves.refl s
    · unfold State.beginListen State.enterLink
      refine Evolves.trans ?_ (State.notify_evolves _ _)
      have h := State.repace_evolves { s with
        port := { s.port with locked := true, configDigest := some (configDigestOf s.port.cfg) }
        ctl := { s.ctl with listenCount := 4 + s.own.val, linkState := .listen } }
      refine ⟨h.1, h.2.1, fun _ => h.2.2.1 rfl, fun _ => State.repace_paceIsLowest _, h.2.2.2.2.1, fun g => ?_,
        h.2.2.2.2.2.2⟩
      refine h.2.2.2.2.2.1 (fun w => ?_)
      have := (g w).1
      rw [hs] at this
      cases this

theorem State.popNotice_evolves (s : State) : Evolves s s.popNotice.1 := by
  unfold State.popNotice
  split
  · next n rest h =>
    refine ⟨rfl, fun g => ?_, id, id, id, id, id⟩
    unfold State.NoticesFit at *
    rw [h] at g
    simp only [List.length_cons] at g
    dsimp only
    omega
  · exact Evolves.refl s

end Sys2Proof.Machine
end

