-- ==== Sys2Proof/Laws/PerInstr.lean ====
section
/-! SUPPORT. Facts of every command as syntax, one lemma per constructor. -/

namespace Sys2Proof.Laws

/-- No word spells a command: the table gives its rows no bits. -/
theorem decodeTableWord_none (nbits w : Nat) : decodeTableWord nbits w = none := rfl

/-- No word spells the command. -/
def NoWord.Statement (i : Instr) : Prop := ∀ nbits w : Nat, decodeTableWord nbits w ≠ some i

theorem NoWord.all (i : Instr) : NoWord.Statement i := by
  intro nbits w h
  rw [decodeTableWord_none] at h
  cases h

theorem NoWord.hardReset (pins : StrapPins) : NoWord.Statement (.hardReset pins) := NoWord.all _
theorem NoWord.cycleStart (holdFirst : Bool) : NoWord.Statement (.cycleStart holdFirst) := NoWord.all _
theorem NoWord.wakeCountExpiry : NoWord.Statement .wakeCountExpiry := NoWord.all _
theorem NoWord.packOwnFrame : NoWord.Statement .packOwnFrame := NoWord.all _
theorem NoWord.frameArrival (a : Arrival) : NoWord.Statement (.frameArrival a) := NoWord.all _
theorem NoWord.tailStart (order : List TailWork) : NoWord.Statement (.tailStart order) := NoWord.all _
theorem NoWord.lossDeclaration : NoWord.Statement .lossDeclaration := NoWord.all _
theorem NoWord.listenExpired : NoWord.Statement .listenExpired := NoWord.all _
theorem NoWord.coldstartDone : NoWord.Statement .coldstartDone := NoWord.all _
theorem NoWord.integrated : NoWord.Statement .integrated := NoWord.all _
theorem NoWord.staleLimit : NoWord.Statement .staleLimit := NoWord.all _
theorem NoWord.dwellComplete : NoWord.Statement .dwellComplete := NoWord.all _
theorem NoWord.freezeLimit : NoWord.Statement .freezeLimit := NoWord.all _
theorem NoWord.deadline : NoWord.Statement .deadline := NoWord.all _
theorem NoWord.offerExpiry : NoWord.Statement .offerExpiry := NoWord.all _
theorem NoWord.relayAged : NoWord.Statement .relayAged := NoWord.all _
theorem NoWord.blankRefused : NoWord.Statement .blankRefused := NoWord.all _
theorem NoWord.cycleClose : NoWord.Statement .cycleClose := NoWord.all _
theorem NoWord.sensorReadDone (a : SensorAnswer) : NoWord.Statement (.sensorReadDone a) := NoWord.all _
theorem NoWord.arrivalTimeout : NoWord.Statement .arrivalTimeout := NoWord.all _
theorem NoWord.latch : NoWord.Statement .latch := NoWord.all _
theorem NoWord.accessEnd (request : List Byte) (clocked : Nat) : NoWord.Statement (.accessEnd request clocked) := NoWord.all _
theorem NoWord.unassignedAccessKind (kind : Byte) : NoWord.Statement (.unassignedAccessKind kind) := NoWord.all _
theorem NoWord.setConfig (args : List Byte) : NoWord.Statement (.setConfig args) := NoWord.all _
theorem NoWord.start (args : List Byte) : NoWord.Statement (.start args) := NoWord.all _
theorem NoWord.leave (args : List Byte) : NoWord.Statement (.leave args) := NoWord.all _
theorem NoWord.create (args : List Byte) : NoWord.Statement (.create args) := NoWord.all _
theorem NoWord.destroy (args : List Byte) : NoWord.Statement (.destroy args) := NoWord.all _
theorem NoWord.showCmd (args : List Byte) : NoWord.Statement (.showCmd args) := NoWord.all _
theorem NoWord.hide (args : List Byte) : NoWord.Statement (.hide args) := NoWord.all _
theorem NoWord.raise (args : List Byte) : NoWord.Statement (.raise args) := NoWord.all _
theorem NoWord.lower (args : List Byte) : NoWord.Statement (.lower args) := NoWord.all _
theorem NoWord.resize (args : List Byte) : NoWord.Statement (.resize args) := NoWord.all _
theorem NoWord.confirm (args : List Byte) : NoWord.Statement (.confirm args) := NoWord.all _
theorem NoWord.move (args : List Byte) : NoWord.Statement (.move args) := NoWord.all _
theorem NoWord.returnCmd (args : List Byte) : NoWord.Statement (.returnCmd args) := NoWord.all _
theorem NoWord.cancel (args : List Byte) : NoWord.Statement (.cancel args) := NoWord.all _
theorem NoWord.accept (args : List Byte) : NoWord.Statement (.accept args) := NoWord.all _
theorem NoWord.decline (args : List Byte) : NoWord.Statement (.decline args) := NoWord.all _
theorem NoWord.relay (args : List Byte) : NoWord.Statement (.relay args) := NoWord.all _
theorem NoWord.blank (args : List Byte) : NoWord.Statement (.blank args) := NoWord.all _
theorem NoWord.wake (args : List Byte) : NoWord.Statement (.wake args) := NoWord.all _
theorem NoWord.clearAdjust (args : List Byte) : NoWord.Statement (.clearAdjust args) := NoWord.all _
theorem NoWord.clearLinkLog (args : List Byte) : NoWord.Statement (.clearLinkLog args) := NoWord.all _
theorem NoWord.readNotice : NoWord.Statement .readNotice := NoWord.all _
theorem NoWord.readStatus : NoWord.Statement .readStatus := NoWord.all _
theorem NoWord.readEntry (surface : Byte) : NoWord.Statement (.readEntry surface) := NoWord.all _
theorem NoWord.readDropLog : NoWord.Statement .readDropLog := NoWord.all _
theorem NoWord.readLinkLog : NoWord.Statement .readLinkLog := NoWord.all _
theorem NoWord.resetAsserted : NoWord.Statement .resetAsserted := NoWord.all _
theorem NoWord.unassignedCommandKind (kind : Byte) (args : List Byte) : NoWord.Statement (.unassignedCommandKind kind args) := NoWord.all _

end Sys2Proof.Laws
end

