-- ==== Sys2Proof/Laws/Shared.lean ====
section
/-! SUPPORT. What the shared operations answer: one lemma per operation that the proofs about commands cite in place of
unfolding it. -/

namespace Sys2Proof.Machine

/-! ### Commands -/

/-- A meaning at a part that runs. -/
theorem whenRunning_runs {s : State} (h : s.Runs) (t : State) : whenRunning s t = .next t := by
  rw [whenRunning, show s.resetLow = false from h]
  rfl

/-- A COMMAND of the right form is carried out by its owning rule and answered with its result. -/
theorem runCommand_ok (code : Byte) (f : State → State × Result) (s : State) :
    runCommand code true f s = (f s).1.replies code (f s).2.bytes := rfl

/-- A COMMAND of the wrong form is answered BAD_ARG. -/
theorem runCommand_badForm (code : Byte) (f : State → State × Result) (s : State) :
    runCommand code false f s = s.replies code [0x13] := rfl

/-- A COMMAND at a part that runs, from what its owning rule answers. -/
theorem command_next {s t : State} {r : Result} {code : Byte} {ok : Bool} {f : State → State × Result} (h : s.Runs)
    (hok : ok = true) (hf : f s = (t, r)) :
    whenRunning s (runCommand code ok f s) = .next (t.replies code r.bytes) := by
  subst hok
  rw [whenRunning_runs h, runCommand_ok, hf]

/-- A COMMAND of the wrong form at a part that runs. -/
theorem command_badForm {s : State} {code : Byte} {ok : Bool} {f : State → State × Result} (h : s.Runs)
    (hok : ok = false) : whenRunning s (runCommand code ok f s) = .next (s.replies code [0x13]) := by
  subst hok
  rw [whenRunning_runs h, runCommand_badForm]

/-- Checks 1 and 2 of R21 pass at an ACTIVE PANEL station. -/
theorem State.atActivePanel_holds {s : State} (h : s.HoldsTables) (r : State × Result) : s.atActivePanel r = r := by
  have hp : s.isPanel = true := by rw [State.isPanel, h.2]; rfl
  rw [State.atActivePanel, h.1, hp]
  rfl

theorem State.isPanel_holds {s : State} (h : s.HoldsTables) : s.isPanel = true := by
  rw [State.isPanel, h.2]
  rfl

theorem State.activePanel_holds {s : State} (h : s.HoldsTables) : s.activePanel = true := by
  rw [State.activePanel, State.isPanel_holds h, h.1]
  rfl

/-- Checks 1 to 4 of R21 pass for an own surface. -/
theorem State.onOwned_holds {s : State} {sf : Surf} (h : s.HoldsTables) (g : s.Owns sf) (f : Surf → State × Result) :
    s.onOwned (surfByte sf) f = f sf := by
  rw [State.onOwned, State.atActivePanel_holds h, toSurf_surfByte]
  dsimp only
  rw [if_neg g.1, if_neg (fun hn => hn g.2)]

/-- Checks 1 to 4 of R75 pass for an unlocked surface. -/
theorem State.onUnlocked_holds {s : State} {sf : Surf} (h : s.HoldsTables) (g : (s.surface sf).state ≠ .free)
    (hl : (s.surface sf).lock = none) (f : Surf → State × Result) : s.onUnlocked (surfByte sf) f = f sf := by
  rw [State.onUnlocked, State.atActivePanel_holds h, toSurf_surfByte]
  dsimp only
  rw [if_neg g, hl]
  rfl

/-- An admitted request finds no reason against it (R149). -/
theorem State.admission_admits {s : State} {c : SharedClass} (h : s.Admits c) : s.admission c = none := by
  rw [State.admission, if_neg (Nat.not_le.mpr h.1), if_neg (Nat.not_le.mpr h.2)]

/-- An admitted request puts its message at the back of its queue. -/
theorem State.request_admits {s : State} {c : SharedClass} (h : s.Admits c) (m : Msg) :
    s.request c m = ({ s with pool := s.pool.enqueue m }, true) := by
  rw [State.request, State.admission_admits h]

/-- A command whose request is admitted is answered QUEUED. -/
theorem State.enqueueOr_admits {s : State} {c : SharedClass} (h : s.Admits c) (m : Msg) :
    s.enqueueOr c m = ({ s with pool := s.pool.enqueue m }, .queued) := by
  simp only [State.enqueueOr, State.request_admits h, if_true]

/-! ### The clip (R4) -/

/-- The clip of a rectangle with its corner on the grid: the part of it that lies on the grid. -/
theorem clip_corner {cols : Nat} {x y w h : Nat} (hx : x < cols) (hy : y < 32) (hw : 1 ≤ w) (hh : 1 ≤ h) :
    clip cols ⟨x, y, w, h⟩ = some ⟨x, y, min w (cols - x), min h (32 - y)⟩ := by
  unfold clip
  dsimp only
  split
  · simp only [Option.some.injEq, Region.mk.injEq, gridRows]
    omega
  · next hn => exact absurd (by simp only [gridRows]; omega) hn

/-- An ABS region with its corner on the grid: its part on the grid, changed where it reaches past the grid. -/
theorem clipArg_corner {cols : Nat} {x y w h : Byte} (hx : x.toNat < cols) (hx' : x.toNat ≤ 63) (hy : y.toNat < 32)
    (hw : 1 ≤ w.toNat) (hw' : w.toNat ≤ 63) (hh : 1 ≤ h.toNat) (hh' : h.toNat ≤ 63) :
    (absRect x y w h).bind (clipArg cols)
      = some (⟨x.toNat, y.toNat, min w.toNat (cols - x.toNat), min h.toNat (32 - y.toNat)⟩,
          decide (cols < x.toNat + w.toNat ∨ 32 < y.toNat + h.toNat)) := by
  have hr : absRect x y w h = some ⟨x.toNat, y.toNat, w.toNat, h.toNat⟩ := if_pos ⟨hx', by omega, hw', hh'⟩
  rw [hr, Option.bind_some, clipArg, if_neg (by simp only; omega), clip_corner hx hy hw hh, Option.map_some]
  congr 2
  by_cases hc : cols < x.toNat + w.toNat ∨ 32 < y.toNat + h.toNat
  · rw [decide_eq_true hc, bne_iff_ne, ne_eq, Region.rect, Rect.mk.injEq]
    dsimp only
    omega
  · rw [decide_eq_false hc, bne_eq_false_iff_eq, Region.rect, Rect.mk.injEq]
    dsimp only
    omega

/-- An ABS region inside the grid is taken as it is. -/
theorem clipArg_inGrid {cols : Nat} {x y w h : Byte} (hc : cols ≤ 63) (g : BytesInGrid cols x y w h) :
    (absRect x y w h).bind (clipArg cols) = some (⟨x.toNat, y.toNat, w.toNat, h.toNat⟩, false) := by
  obtain ⟨h1, h2, h3, h4⟩ := g
  rw [clipArg_corner (by omega) (by omega) (by omega) h1 (by omega) h2 (by omega), decide_eq_false (by omega),
    Nat.min_eq_left (by omega), Nat.min_eq_left (by omega)]

/-! ### Detachment -/

/-- Notices added one after another change only the local port's queue and overrun flag. -/
theorem State.notifyAll_eq {α : Type} (f : α → Notice) (l : List α) (s : State) :
    ∃ ns o, l.foldl (fun s c => s.notify (f c)) s = { s with port := { s.port with notices := ns, overrun := o } } := by
  induction l generalizing s with
  | nil => exact ⟨s.port.notices, s.port.overrun, rfl⟩
  | cons a l ih =>
    obtain ⟨ns, o, h⟩ := ih (s.notify (f a))
    refine ⟨ns, o, ?_⟩
    rw [List.foldl_cons, h]
    unfold State.notify
    split <;> rfl

/-- The pace station with every entry ABSENT is none outside ACTIVE and COLDSTART. -/
theorem paceOf_absent (own : Station) {ls : LinkState} (h : ls.paces = false) :
    paceOf own ls #v[none, none, none, none] = none := by
  have hq : ∀ k ∈ stations, ¬ qualifies own ls #v[none, none, none, none] k = true := by
    intro k hk
    unfold qualifies
    split
    · rw [h]; exact Bool.false_ne_true
    · simp only [stations, List.mem_cons, List.not_mem_nil, or_false] at hk
      rcases hk with rfl | rfl | rfl | rfl <;> exact Bool.false_ne_true
  exact List.find?_eq_none.mpr hq

/-- What a detachment leaves (R66, R67). -/
theorem State.detach_detachedTo {s : State} (c : LinkCause) (toHalted : Bool) (h : s.ctl.linkState ≠ .halted) :
    s.DetachedTo (s.detach c toHalted) (if toHalted || s.ctl.leavePending then .halted else .listen) := by
  unfold State.detach
  rw [if_neg h]
  dsimp only
  obtain ⟨ns, o, hu⟩ := s.notifyAll_eq (fun c => .txnDone c.1 c.2 .left) s.counted
  rw [hu]
  generalize hb : (toHalted || s.ctl.leavePending) = b
  have hpace : (if b then LinkState.halted else LinkState.listen).paces = false := by cases b <;> rfl
  have hls : (if (!b) = true then LinkState.listen else LinkState.halted)
      = if b = true then LinkState.halted else LinkState.listen := by cases b <;> rfl
  rw [hls]
  generalize hl : (if b = true then LinkState.halted else LinkState.listen) = ls at hpace
  unfold State.enterLink
  simp only [State.DetachedTo, State.notify_ctl, State.notify_link, State.notify_tables, State.notify_txns,
    State.notify_div, State.notify_pool, State.notify_angle, State.notify_panel]
  have hr : State.repace
      { State.clearForDetach { s with port := { s.port with notices := ns, overrun := o } } (!b) with
        ctl := { (State.clearForDetach { s with port := { s.port with notices := ns, overrun := o } } (!b)).ctl with
          linkState := ls } }
      = { State.clearForDetach { s with port := { s.port with notices := ns, overrun := o } } (!b) with
        ctl := { (State.clearForDetach { s with port := { s.port with notices := ns, overrun := o } } (!b)).ctl with
          linkState := ls } } := by
    unfold State.repace
    exact if_pos (paceOf_absent _ hpace)
  rw [hr]
  refine ⟨rfl, rfl, rfl, rfl, rfl, rfl, rfl, rfl, ?_, rfl, rfl, rfl, rfl, rfl, rfl, rfl, rfl, rfl, rfl, rfl, ?_, ?_, ?_⟩
  · intro hlis
    cases b
    · rfl
    · subst hl; cases hlis
  · unfold State.notify; split <;> rfl
  · unfold State.notify; split <;> rfl
  · intro hh
    cases b
    · subst hl; cases hh
    · unfold State.notify
      split <;> exact Bool.and_false _

/-- A detachment leaves the timer, the cycle count, the slots and the logs of the link controller. -/
theorem State.detach_link {s : State} (c : LinkCause) (toHalted : Bool) (h : s.ctl.linkState ≠ .halted) :
    (s.detach c toHalted).link = { s.link with silence := #v[0, 0, 0, 0], sending := none } := by
  unfold State.detach
  rw [if_neg h]
  dsimp only
  obtain ⟨ns, o, hu⟩ := s.notifyAll_eq (fun c => .txnDone c.1 c.2 .left) s.counted
  rw [hu, State.enterLink, State.notify_link, (State.repace_rest _).1]
  rfl

/-- The notices of a detachment with no own transaction: LINK_STATE alone. -/
theorem State.detach_notices {s : State} (c : LinkCause) (toHalted : Bool) (h : s.ctl.linkState ≠ .halted)
    (hc : s.counted = []) (hr : s.port.notices.length < 16) :
    (s.detach c toHalted).port.notices
      = s.port.notices ++ [.linkState (if toHalted || s.ctl.leavePending then .halted else .listen) c] := by
  unfold State.detach
  rw [if_neg h]
  dsimp only
  rw [hc, List.foldl_nil]
  have hp : ∀ ls, (State.repace { s.clearForDetach (!(toHalted || s.ctl.leavePending)) with
      ctl := { (s.clearForDetach (!(toHalted || s.ctl.leavePending))).ctl with linkState := ls } }).port.notices
        = s.port.notices := fun ls => by
    rw [(State.repace_rest _).2.2.2.2.2.2.2.1]
    rfl
  rw [State.enterLink, State.notify_room _ (by rw [hp]; exact hr)]
  dsimp only
  rw [hp]
  cases (toHalted || s.ctl.leavePending) <;> rfl

end Sys2Proof.Machine
end

