-- ==== Sys2Proof/Tests/Slice0.lean ====
section
/-! SUPPORT. Tests: well-formedness, small steps of every family of commands, and for every statement with hypotheses a
concrete state that meets them (`witness_…`, one conjunct per clause at a boundary of its range). -/

namespace Sys2Proof.Tests

open Sys2Proof Sys2Proof.Machine

/-! ### Helpers -/

/-- The state of a next outcome. -/
def got (o : Host.Outcome State Fault Refusal) (s : State) : State :=
  match o with
  | .next t => t
  | .fault _ => s
  | .refused _ => s

/-- The state after a command. -/
def after (c : Instr) (s : State) : State := got (exec c s) s

/-- The reply that waits at the port. -/
def reply (s : State) : Option (List Byte) := s.port.access.map (·.reply)

/-- A station with PRIMARY angle input, in a link state, with everything else as right after reset. -/
def station (k : Station) (role : Role) (ls : LinkState) : State :=
  { State.ofStraps ⟨k, role, .primary, .r60, false⟩ with
    ctl.linkState := ls, port.locked := ls != .halted, port.configDigest := some 5 }

/-- An ACTIVE PANEL station in the peer view. -/
def holder : Peer := ⟨.active, .panel, false, false, some 5⟩

/-- Surface 1 (index 0): placed on panel 0 of station 0, visible. -/
def placed : Entry := ⟨.placed, 7, some 0, some (.panel 0), some ⟨0, 0, 10, 10⟩, true, none, false, none, none⟩

/-- Surface 2 (index 1): parked, owned by station 0, with a return placement on panel 1. -/
def parked : Entry :=
  ⟨.parked, 8, some 0, none, some ⟨0, 0, 10, 10⟩, false, none, true, some ⟨.panel 1, ⟨2, 2, 4, 4⟩⟩, none⟩

/-- Station 0, ACTIVE PANEL, its own pace; stations 0, 1 and 2 are ACTIVE PANEL stations; surfaces 1 and 2 stand. -/
def table : State :=
  { station 0 .panel .active with
    ctl.peers := #v[some holder, some holder, some holder, none], ctl.pace := some 0
    tables.entries := ((Vector.replicate 16 Entry.free).set 0 placed).set 1 parked
    tables.lists := #v[[0], [], [], []] }

/-- A SENSOR station, ACTIVE and its own pace. -/
def sensor : State := { station 3 .sensor .active with ctl.pace := some 3 }

/-- A station in LISTEN. -/
def listener : State := station 1 .panel .listen

/-- A notice. -/
def note : Notice := .created 1 0

/-- The header of an ACTIVE PANEL station. -/
def header (k : Station) : Header :=
  { station := k, role := .panel, state := .active, cycle := 9, coldstart := false, bye := false, relayHold := false
    degraded := false, frozen := false, panelState := .lit, sample := ⟨.none, false, 0⟩, configDigest := some 5
    tableDigest := some 6 }

/-- An own frame without messages. -/
def ownFrame (h : Header) : OwnFrame := ⟨h, [], frameBytes h []⟩

/-- A frame of a station, received on time. -/
def reception (mode : ReceptionMode) (k : Station) : Reception :=
  ⟨mode, expectedStart k, frameBytes (header k) [], true, false⟩

/-- An open MOVE of surface 1 to panel 1, waiting for station 1. -/
def moving : Txn :=
  ⟨⟨0, 0⟩, .move, 0, some (.panel 0), ⟨.panel 1, ⟨0, 0, 10, 10⟩⟩, false, 0b0011, 0b0001, 12, [1]⟩

/-- `table` with that MOVE open. -/
def withMove : State :=
  { table with
    txns.table := [moving], txns.ownOpen := 1
    tables.entries := table.tables.entries.set 0 { placed with lock := some ⟨0, 0⟩ } }

/-- A pending offer. -/
def offer : Offer := ⟨⟨1, 4⟩, 8, .pending⟩

/-! ### Well-formedness: each check refuses an ill-formed command -/

theorem test_wellFormed_tailStart_default : (Instr.tailStart TailWork.all).wellFormed = true := by decide

theorem test_illFormed_tailStart_lossesBeforeSilence :
    (Instr.tailStart (.losses :: TailWork.all.filter (· != .losses))).wellFormed = false := by decide

theorem test_illFormed_tailStart_workMissing : (Instr.tailStart (TailWork.all.drop 1)).wellFormed = false := by decide

theorem test_illFormed_tailStart_workTwice : (Instr.tailStart (.blank :: TailWork.all)).wellFormed = false := by decide

theorem test_illFormed_assignedAccessKind : (Instr.unassignedAccessKind 0x03).wellFormed = false := by decide

theorem test_illFormed_assignedCommandKind : (Instr.unassignedCommandKind 0x10 []).wellFormed = false := by decide

theorem test_illFormed_arguments :
    ([Instr.setConfig, .start, .leave, .create, .destroy, .showCmd, .hide, .raise, .lower, .resize, .confirm, .move,
      .returnCmd, .cancel, .accept, .decline, .relay, .blank, .wake, .clearAdjust, .clearLinkLog,
      .unassignedCommandKind 0x99].all
        (fun f => (f (List.replicate 256 0)).wellFormed == false && (f (List.replicate 255 0)).wellFormed)) = true := by
  decide +kernel

/-! ### Small steps -/

/-- The 16-bit frame check and the CRC-32 of the nine characters 1 to 9. -/
theorem test_crc :
    crc16 [0x31, 0x32, 0x33, 0x34, 0x35, 0x36, 0x37, 0x38, 0x39] = 0x29B1
      ∧ crc32 [0x31, 0x32, 0x33, 0x34, 0x35, 0x36, 0x37, 0x38, 0x39] = 0xFC891918 := by decide +kernel

theorem test_step_front :
    step { table with pending := [.latch, .leave []] } = exec .latch { table with pending := [.leave []] } := rfl

theorem test_hardReset :
    (after (.hardReset ⟨2, false, 1, 3, false⟩) table).ctl.straps = ⟨2, .panel, .primary, .r120, false⟩ := by
  decide +kernel

theorem test_resetAsserted : (after .resetAsserted table).intHigh = true ∧ after .latch (after .resetAsserted table)
    = after .resetAsserted table := ⟨rfl, rfl⟩

theorem test_cycleStart_count : (after (.cycleStart true) sensor).link.cycle = 0 := by decide +kernel

theorem test_cycleStart_sample :
    (after (.cycleStart true) { sensor with angle.read := .done (.reading 1850) }).angle.ownSample = ⟨.primary, true, 1850⟩ := by
  decide +kernel

theorem test_wakeCountExpiry : (after .wakeCountExpiry { table with panel.state := .waking }).panel.state = .lit := by
  decide +kernel

theorem test_packOwnFrame :
    ((after .packOwnFrame { sensor with pool.relay := [⟨0, [1], 0⟩] }).link.sending.map (·.msgs))
      = some [.relay 0 [1]] := by decide +kernel

/-- A point between two groups of tests. Lean checks every theorem above before it goes on past a type, so only the
tests of one group wait for the kernel at once. -/
structure Checkpoint1 where

theorem test_frameArrival_integrates :
    (after (.frameArrival (.received (reception .free 0))) listener).ctl.linkState = .integrating := by decide +kernel

/-- Station 1 in COLDSTART with its own frame packed, as the frame of station 0 arrives before that frame begins. -/
def coldPacked : State :=
  { station 1 .panel .coldstart with
    ctl.pace := some 1
    link.sending := some (ownFrame { header 1 with state := .coldstart, coldstart := true, tableDigest := none }) }

/-- The frame that has not begun is not sent, and the own slot of the moved cycle takes an INTEGRATING frame. -/
theorem test_frameArrival_integrates_packed :
    let t : State := after (.frameArrival (.received (reception .free 0))) coldPacked
    t.ctl.linkState = .integrating ∧ t.link.sending = none
      ∧ (after .packOwnFrame t).link.sending.map (·.header.state) = some .integrating := by decide +kernel

/-- The frame that is on the link goes on to its end, and the own slot of the moved cycle is still open. -/
theorem test_frameArrival_integrates_sending :
    let r : Reception := { reception .free 0 with start := expectedStart 1 - 200 }
    let t : State := after (.frameArrival (.received r)) coldPacked
    t.ctl.linkState = .integrating ∧ t.link.sending = coldPacked.link.sending
      ∧ (after (.frameArrival (.own (ownFrame { header 1 with state := .coldstart, coldstart := true, tableDigest := none }).bytes
          false)) t).link = { t.link with sending := none } := by decide +kernel

/-- A frame that starts in the mode out of force, or in the own slot, is no arrival. -/
theorem test_frameArrival_mode :
    after (.frameArrival (.received (reception .aligned 0))) listener = listener
      ∧ after (.frameArrival (.received (reception .free 1))) table = table
      ∧ after (.frameArrival (.received (reception .aligned 0))) table = table := by decide +kernel

/-- A station that has become ACTIVE at this tail start finishes a frame under way in free reception, and takes the next
one, which starts before slot 0 of the next cycle, in aligned reception. -/
theorem test_frameArrival_afterColdstart :
    let s : State := { table with ctl.straps.station := 1, ctl.pace := some 0, rx.freeUntil := some tailStartTime }
    s.modeAt (tailStartTime - 1) = some .free ∧ s.modeAt (tailStartTime - 7200) = some .free
      ∧ s.modeAt (tailStartTime - 7201) = some .aligned ∧ s.modeAt (-960) = some .aligned ∧ s.modeAt (-1) = some .aligned
      ∧ memSet (after (.frameArrival (.received { reception .aligned 0 with start := -1 })) s).link.settled 0 = true := by
  decide +kernel

/-- The tick at which a window closes is in the next slot's window, and after slot 3 in none. -/
theorem test_slotOf_boundary :
    slotOf (-961) = none ∧ slotOf (-960) = some 0 ∧ slotOf (windowClose 0 - 1) = some 0 ∧ slotOf (windowClose 0) = some 1
      ∧ slotOf (windowClose 3 - 1) = some 3 ∧ slotOf (windowClose 3) = none := by decide +kernel

theorem test_frameArrival_own :
    (after (.frameArrival (.own (frameBytes (header 0) []) false))
      { table with link.sending := some (ownFrame (header 0)) }).link.sending = none := by decide +kernel

theorem test_tailStart_listen : (after (.tailStart TailWork.all) { listener with ctl.listenCount := 1 }).ctl.linkState
    = .coldstart := by decide +kernel

theorem test_tailStart_diverge :
    (after (.tailStart TailWork.all)
      { table with link.heard := 0b1111, div.ownDigest := some 1, div.candidates := #v[none, some 2, none, none] }).ctl.linkState
      = .resync := by decide +kernel

theorem test_lossDeclaration :
    (after .lossDeclaration { table with link.silence := #v[0, 3, 2, 0] }).ctl.peers = #v[some holder, none, some holder, none] := by
  decide +kernel

theorem test_listenExpired : (after .listenExpired listener).link.cycle = 65535 := by decide +kernel

theorem test_coldstartDone :
    (after .coldstartDone { station 0 .panel .coldstart with ctl.coldstartCount := 8 }).ctl.linkState = .active := by
  decide +kernel

theorem test_integrated :
    (after .integrated { station 3 .sensor .integrating with ctl.integrationCount := 2 }).ctl.linkState = .active := by
  decide +kernel

theorem test_staleLimit :
    (after .staleLimit { table with angle.ps := ⟨.band .book, none, 0, false, 0, 10⟩ }).angle.ps.posture = .unknown := by
  decide +kernel

theorem test_dwellComplete :
    (after .dwellComplete { table with angle.ps := ⟨.unknown, some .flat, 3, false, 0, 0⟩ }).angle.ps.posture = .band .flat := by
  decide +kernel

theorem test_freezeLimit :
    (after .freezeLimit { table with div.freezeCount := 8, div.freezeFlag := true }).div.freezeFlag = false := by
  decide +kernel

/-- A point between two groups of tests, as `Checkpoint1`. -/
structure Checkpoint2 where

theorem test_deadline :
    (after .deadline { withMove with txns.table := [{ moving with cyclesLeft := 0 }] }).port.notices
      = [.txnDone ⟨0, 0⟩ 0 .timeout] := by decide +kernel

theorem test_offerExpiry :
    (after .offerExpiry { table with txns.offers := [{ offer with cyclesLeft := 0 }] }).pool.control
      = [.refuse ⟨1, 4⟩ (some .hostTimeout)] := by decide +kernel

theorem test_relayAged :
    (after .relayAged { table with pool.relay := [⟨1, [1], 32⟩, ⟨1, [2], 31⟩] }).pool.dropsRelay = 1 := by
  decide +kernel

theorem test_blankRefused :
    (after .blankRefused { table with panel.state := .blankPending }).port.notices = [.panel .blankRefused .lit] := by
  decide +kernel

theorem test_cycleClose_restores :
    ((after .cycleClose { table with angle.ps := { PostureState.start with posture := .band .flat } }).surface 1).target
      = some (.panel 1) := by decide +kernel

/-- Of two open entries with one id, the evacuation of a surface removes the entry of that surface. -/
theorem test_unlockRehomed_sameId :
    let second : Txn := { moving with surf := 1 }
    let s : State :=
      { withMove with
        txns.table := [second, moving], txns.ownOpen := 2
        tables.entries := withMove.tables.entries.set 1 { parked with lock := some moving.id } }
    let t : State := s.unlockRehomed 0
    t.txns.table = [second] ∧ (t.surface 0).lock = none ∧ (t.surface 1).lock = some moving.id := by decide +kernel

theorem test_cycleClose_evacuates :
    ((after .cycleClose { table with angle.ps := { PostureState.start with posture := .band .closed } }).surface 0).target
      = some (.panel 2) := by decide +kernel

theorem test_sensorReadDone :
    (after (.sensorReadDone ⟨true, true, true, 0x07, 0x3A⟩) { sensor with angle.read := .running }).angle.read
        = .done (.reading 1850)
      ∧ (after (.sensorReadDone ⟨true, false, true, 0x07, 0x3A⟩) { sensor with angle.read := .running }).sensorBus
        = [.start, .address 0x2C false true, .sent 0x00 false, .stop] := by decide +kernel

theorem test_arrivalTimeout :
    ((after .arrivalTimeout { table with tables.entries := table.tables.entries.set 0 { placed with arriving := some 0 } }).surface
      0).state = .parked := by decide +kernel

theorem test_latch :
    (after .latch { table with panel.outstanding := some ⟨.list, 3⟩, panel.missCount := 2 }).panel.missCount = 0 := by
  decide +kernel

theorem test_accessEnd :
    (after (.accessEnd [0x01, 0x10, 8] 0) table).port.lastAccess = some ⟨some 0x01, some 0x10, none, .requestCut⟩ := by
  decide +kernel

theorem test_request :
    accessOf [0x01, 0x11, 1, 5, 9] = some (.destroy [5]) ∧ accessOf [0x01, 0x11, 2, 5] = none
      ∧ (table.clockIn [0x04, 7]).pending = [.readEntry 7] := by decide +kernel

theorem test_miso :
    let s : State := { table with port.access := some ⟨0x02, none, [0x00, 0x0B]⟩ }
    s.misoByte 1 = 0x0B ∧ s.misoByte 2 = 0 := by decide +kernel

theorem test_unassigned :
    reply (after (.unassignedAccessKind 0x77) table) = some [0x13]
      ∧ reply (after (.unassignedCommandKind 0x99 []) table) = some [0x13] := by decide +kernel

theorem test_setConfig :
    (after (.setConfig [0x0B, 0, 0, 0, 15]) (station 0 .panel .halted)).port.cfg.dwell = 15
      ∧ reply (after (.setConfig [0x0B, 0, 0, 0, 16]) (station 0 .panel .halted)) = some [0x13] := by decide +kernel

theorem test_start :
    (after (.start []) (station 2 .panel .halted)).ctl.listenCount = 6
      ∧ reply (after (.start []) (station 2 .sensor .halted)) = some [0x14, 2] := by decide +kernel

/-- A point between two groups of tests, as `Checkpoint1`. -/
structure Checkpoint3 where

theorem test_leave :
    (after (.leave []) table).ctl.leavePending = true ∧ (after (.leave []) listener).ctl.linkState = .halted := by
  decide +kernel

theorem test_create_clipped :
    (after (.create [1, 0, 9, 20, 0, 10, 10, 1]) table).pool.state = [.create 1 9 ⟨20, 0, 4, 10⟩ true] := by decide +kernel

theorem test_destroy_locked : reply (after (.destroy [1]) withMove) = some [0x16] := by decide +kernel

theorem test_show_hide :
    (after (.hide [1]) table).pool.state = [.setVisible 0 false] ∧ reply (after (.showCmd [1]) table) = some [0x00] := by
  decide +kernel

theorem test_raise_lower :
    (after (.raise [1]) { table with tables.lists := #v[[4, 0], [], [], []] }).pool.state = [.restack 0 .front]
      ∧ (after (.lower [1]) { table with tables.lists := #v[[0, 4], [], [], []] }).pool.state = [.restack 0 .back] := by
  decide +kernel

theorem test_resize_relative :
    (after (.resize [1, 1, 2, 0, 0, 0xFB]) table).pool.state = [.resize 0 ⟨2, 0, 10, 5⟩] := by decide +kernel

theorem test_confirm :
    reply (after (.confirm [1]) table) = some [0x00] ∧ reply (after (.confirm [17]) table) = some [0x15] := by decide +kernel

theorem test_move_full :
    (after (.move [1, 4, 2, 0, 0, 0, 0, 1]) table).pool.transaction
      = [.proposeMove ⟨0, 0⟩ 0 ⟨.span, ⟨0, 0, 48, 32⟩⟩ true] := by decide +kernel

theorem test_return_cancel :
    reply (after (.returnCmd [1]) table) = some [0x1D]
      ∧ (after (.cancel [0, 0]) (after (.returnCmd [2]) table)).pool.transaction = [] := by decide +kernel

theorem test_accept_decline :
    reply (after (.accept [1, 4]) { table with txns.offers := [offer], txns.table := [{ moving with id := ⟨1, 4⟩ }] }) = some [0x01]
      ∧ reply (after (.decline [1, 4]) table) = some [0x1A] := by decide +kernel

theorem test_relay :
    (after (.relay [1, 5, 6]) table).pool.relay = [⟨1, [5, 6], 0⟩] ∧ reply (after (.relay [0, 5]) table) = some [0x1E] := by
  decide +kernel

theorem test_blank_wake :
    (after (.blank []) table).panel.darkMark = true
      ∧ (after (.wake []) { table with panel.state := .dark }).panel.wakeCount = 4 := by decide +kernel

theorem test_clears :
    (after (.clearAdjust []) { table with port.adjClipped := true }).port.adjClipped = false
      ∧ (after (.clearLinkLog []) { table with link.laterMajors := 3 }).link.laterMajors = 0 := by decide +kernel

theorem test_readNotice :
    reply (after .readNotice { table with port.notices := [note] }) = some [0, 0x01, 2, 1, 1] := by
  decide +kernel

theorem test_readStatus : (after .readStatus { table with port.overrun := true }).port.overrun = false := rfl

theorem test_readEntry :
    reply (after (.readEntry 0) table) = some [0x13] ∧ reply (after (.readEntry 1) sensor) = some [0x12] := by
  decide +kernel

/-- A point between two groups of tests, as `Checkpoint1`. -/
structure Checkpoint4 where

theorem test_readLogs :
    (after .readDropLog { table with pool.dropsRelay := 2 }).pool.dropsRelay = 0
      ∧ reply (after .readLinkLog { table with link.laterMajors := 3 }) = some [0, 0, 0, 0, 0, 0, 0, 0, 0, 0, 0, 3] := by
  decide +kernel

/-! ### Witnesses: a state and operands that meet the hypotheses of each statement, clause by clause -/

/-- The default configuration lies in its ranges. -/
theorem default_inRange : ConfigItems.default.InRange := by
  refine ⟨by decide, fun p h => ?_, ?_⟩
  · obtain rfl := Option.some.inj h
    decide
  · decide +kernel

theorem witness_NothingStopsTheBlock : table.pending = [] := rfl

theorem witness_HardReset :
    (false = false ∨ true = false) ∧ (true = false ∨ false = false)
      ∧ (∃ p : StrapPins, p.auto = true ∧ p.role = true ∧ p.stn = 3)
      ∧ (∃ p : StrapPins, p.auto = true ∧ p.role = true ∧ p.stn ≠ 3)
      ∧ ∀ n < 4, ∃ p : StrapPins, p.ang.toNat = n ∧ p.rate.toNat = n := by
  refine ⟨.inl rfl, .inr rfl, ⟨⟨3, true, 1, 1, true⟩, rfl, rfl, rfl⟩, ⟨⟨2, true, 1, 1, true⟩, rfl, rfl, by decide⟩, ?_⟩
  intro n h
  exact ⟨⟨0, false, BitVec.ofNat 2 n, BitVec.ofNat 2 n, false⟩, by simp; omega, by simp; omega⟩

theorem witness_ResetLow :
    ({ table with resetLow := true } : State).resetLow = true ∧ (∀ p, Instr.latch ≠ .hardReset p)
      ∧ Instr.latch ≠ .resetAsserted := by
  refine ⟨rfl, ?_, by decide⟩
  intro p h
  cases h

theorem witness_CycleStartAndSample :
    table.Runs ∧ sensor.Runs ∧ sensor.ctl.straps.role = .sensor
      ∧ ({ sensor with angle.read := .done (.reading 1850) } : State).angle.read = .done (.reading 1850)
      ∧ sensor.ctl.straps.angle ≠ .none ∧ (1850 : Half).toNat ≤ 1850 ∧ 1850 < (1851 : Half).toNat
      ∧ ({ sensor with ctl.straps.angle := .none } : State).ctl.straps.angle = .none
      ∧ sensor.angle.read = .idle
      ∧ ({ sensor with angle.read := .running } : State).angle.read = .running := by decide +kernel

theorem witness_RelayHoldHysteresis :
    let full (n : Nat) (hold : Bool) : State :=
      { table with port.notices := List.replicate n note, pool.relayHold := hold }
    (full 12 false).Runs ∧ (full 12 false).pool.relayHold = false ∧ 12 ≤ (full 12 false).port.notices.length
      ∧ (full 4 true).pool.relayHold = true ∧ (full 4 true).port.notices.length ≤ 4
      ∧ (full 11 false).pool.relayHold = false ∧ (full 11 false).port.notices.length < 12
      ∧ (full 5 true).pool.relayHold = true ∧ 4 < (full 5 true).port.notices.length := by decide +kernel

theorem witness_FreezeAtCycleStart :
    let frozen (d : DumpState) : State :=
      { table with div.freezeGiver := some 0, div.dumpState := d }
    let counting (n : Nat) : State := { table with div.freezeCount := n, div.nextMark := true }
    (frozen .waiting).Runs ∧ (frozen .waiting).tracking = true ∧ (frozen .waiting).div.freezeCount = 0
      ∧ (frozen .waiting).div.freezeGiver = some 0 ∧ (frozen .waiting).div.dumpState = .waiting
      ∧ (frozen .asked).div.dumpState = .asked ∧ (frozen .none).own = 0 ∧ (frozen .none).ctl.linkState = .active
      ∧ ((frozen .none).surface 0).state ≠ .free ∧ (∀ sf' : Surf, sf' < 0 → ((frozen .none).surface sf').state = .free)
      ∧ (∀ sf : Surf, (({ frozen .none with tables := Tables.empty } : State).surface sf).state = .free)
      ∧ (counting 1).tracking = true ∧ 0 < (counting 1).div.freezeCount ∧ (counting 7).div.freezeCount < 8
      ∧ (counting 0).div.freezeCount = 0 ∧ (counting 0).div.freezeGiver = none ∧ (counting 0).div.nextMark = true := by
  decide +kernel

theorem witness_MissedLatchCounts_LatchAcknowledges :
    let missed (n : Nat) (d : Bool) : State :=
      { table with panel.outstanding := some ⟨.list, 3⟩, panel.missCount := n, panel.degraded := d }
    (missed 2 false).Runs ∧ (missed 2 false).ctl.straps.role = .panel ∧ (missed 2 false).panel.state = .lit
      ∧ (missed 2 false).panel.outstanding = some ⟨.list, 3⟩ ∧ (missed 2 false).panel.missCount < 3
      ∧ 3 ≤ (missed 3 true).panel.missCount ∧ (missed 2 false).panel.degraded = false
      ∧ (missed 3 true).panel.degraded = true ∧ table.panel.outstanding = none ∧ sensor.ctl.straps.role = .sensor := by
  decide +kernel

theorem witness_PanelAtCycleStart :
    let blanking (wait : Nat) (t : State) : State :=
      { t with panel.state := .blankPending, panel.darkMark := true, panel.blankWait := wait }
    let waking (n : Nat) : State := { table with panel.state := .waking, panel.wakeCount := n }
    (blanking 1 table).Runs ∧ (blanking 1 table).ctl.straps.role = .panel ∧ (blanking 1 table).panel.state = .blankPending
      ∧ (blanking 1 table).panel.darkMark = true ∧ (blanking 1 table).panel.outstanding = none
      ∧ (blanking 1 table).panelIdle = true ∧ (blanking 1 withMove).panelIdle = false
      ∧ (blanking 0 withMove).panelIdle = false ∧ (blanking 0 withMove).panel.blankWait = 0
      ∧ (blanking 1 withMove).panel.blankWait ≠ 0 ∧ (waking 2).panel.state = .waking ∧ (waking 2).panel.outstanding = none
      ∧ 2 ≤ (waking 2).panel.wakeCount ∧ (waking 1).panel.wakeCount = 1 ∧ table.panel.state = .lit
      ∧ table.ctl.linkState = .active ∧ (0 : Surf) ∈ table.tables.lists[table.own]
      ∧ (table.surface 0).target = some (.panel table.own) ∧ (table.surface 0).region = some ⟨0, 0, 10, 10⟩
      ∧ (table.surface 0).visible = true ∧ (station 0 .panel .resync).ctl.linkState = .resync
      ∧ listener.ctl.linkState ≠ .active ∧ listener.ctl.linkState ≠ .resync := by decide +kernel

/-- A visible surface on SPAN of the pair 0, 1, from column `x` on, `w` columns wide, seen by station `k`. -/
def spanning (k : Station) (x w : Nat) : State :=
  { table with
    ctl.straps.station := k
    tables.entries := table.tables.entries.set 0 { placed with target := some .span, region := some ⟨x, 0, w, 1⟩ }
    tables.lists := #v[[0], [0], [], []] }

theorem witness_SpanPartsListed :
    (∀ k ∈ ([0, 1] : List Station), ∀ q ∈ ([(23, 1), (24, 24), (23, 2), (0, 24)] : List (Nat × Nat)),
      let s : State := spanning k q.1 q.2
      s.Runs ∧ s.ctl.straps.role = .panel ∧ s.panel.state = .lit ∧ s.ctl.linkState = .active
        ∧ s.port.cfg.spanPair = some (0, 1) ∧ 0 ∈ s.tables.lists[s.own] ∧ (s.surface 0).target = some .span
        ∧ (s.surface 0).region = some ⟨q.1, 0, q.2, 1⟩ ∧ (⟨q.1, 0, q.2, 1⟩ : Region).inGrid 48 = true
        ∧ (s.surface 0).visible = true)
      ∧ (spanning 0 23 1).own.val = min 0 1 ∧ (spanning 1 23 2).own.val = max 0 1 := by decide +kernel

theorem witness_PanelCountLimits :
    let waking (n : Nat) : State := { table with panel.state := .waking, panel.wakeCount := n }
    let pending (n : Nat) (d : Bool) : State :=
      { table with panel.state := .blankPending, panel.blankWait := n, panel.darkMark := d }
    (waking 0).Runs ∧ (waking 0).ctl.straps.role = .panel ∧ (waking 0).panel.state = .waking
      ∧ (waking 0).panel.wakeCount = 0 ∧ (waking 1).panel.wakeCount ≠ 0 ∧ (pending 0 false).panel.state = .blankPending
      ∧ (pending 0 false).panel.darkMark = false ∧ (pending 0 false).panel.blankWait = 0
      ∧ (pending 0 true).panel.darkMark = true ∧ (pending 1 false).panel.blankWait ≠ 0 ∧ table.panel.state ≠ .waking
      ∧ sensor.ctl.straps.role = .sensor := by decide +kernel

theorem witness_OwnFramePacked :
    let queued (n : Nat) : State := { table with pool.control := List.replicate n (.resyncReq .join) }
    table.Runs ∧ table.ctl.linkState.sends = true ∧ table.link.sending = none ∧ memSet table.link.settled table.own = false
      ∧ sensor.ctl.straps.role = .sensor ∧ (station 0 .panel .resync).ctl.linkState ≠ .active
      ∧ ({ table with ctl.leavePending := true } : State).ctl.leavePending = true
      ∧ (queued 6).ctl.leavePending = false ∧ (queued 7).port.cfg.weighted = false ∧ (queued 7).givesDump = false
      ∧ (queued 7).pool.relay = [] := by decide +kernel

/-- WEIGHTED servicing with long queues, a held relay in front and a relay cap of 2: rounds of 3, 2 and 1. -/
theorem test_packOwnFrame_weighted :
    let s : State :=
      { table with
        port.cfg.weighted := true, ctl.peers := #v[some holder, some { holder with relayHold := true }, some holder, none]
        pool.control := [.resyncReq .join, .resyncReq .join], pool.transaction := List.replicate 3 (.cancel ⟨0, 0⟩)
        pool.state := [.destroy 0], pool.relay := [⟨1, [1], 0⟩, ⟨2, [2], 0⟩] }
    (after .packOwnFrame s).link.sending.map (·.msgs)
        = some [.resyncReq .join, .resyncReq .join, .cancel ⟨0, 0⟩, .cancel ⟨0, 0⟩, .cancel ⟨0, 0⟩, .destroy 0]
      ∧ ((after .packOwnFrame { s with pool.transaction := [] }).pool.relay) = [⟨1, [1], 0⟩] := by decide +kernel

/-- The freeze giver packs its dump first. -/
theorem test_packOwnFrame_dump :
    let s : State := { table with div.freezeGiver := some 0, div.freezeFlag := true, div.cursor := .next 1 }
    (after .packOwnFrame s).div.cursor = .done
      ∧ (after .packOwnFrame s).link.sending.map (·.msgs.map Msg.kindByte) = some [0x30, 0x31]
      ∧ (after .packOwnFrame s).link.sending.bind (·.msgs.head?) = some (.dump ⟨1, parked, #v[0, 0, 0, 0]⟩) := by
  decide +kernel

theorem witness_FrameMessagesInThreeParts :
    let gives (c : DumpCursor) : State :=
      { table with div.freezeGiver := some 0, div.freezeFlag := true, div.cursor := c }
    (gives .done).Runs ∧ (gives .done).ctl.linkState.sends = true ∧ (gives .done).link.sending = none
      ∧ memSet (gives .done).link.settled (gives .done).own = false ∧ (gives .done).ctl.leavePending = false
      ∧ (Claim.dumpPath (gives (.next 0)) (.next 0)) = [.next 0, .next 1, .dumpEnd]
      ∧ ({ table with port.cfg.weighted := true } : State).port.cfg.weighted = true := by decide +kernel

/-- A point between two groups of tests, as `Checkpoint1`. -/
structure Checkpoint5 where

theorem witness_ArrivalsWithoutFrame :
    let collecting : State :=
      { table with div.dumpState := .collecting [], div.freezeGiver := some 1, div.attempts := 1 }
    let third : State :=
      { station 0 .panel .resync with div.dumpState := .collecting [], div.freezeGiver := some 1, div.attempts := 2 }
    (station 0 .panel .halted).Runs ∧ (station 0 .panel .halted).ctl.linkState = .halted
      ∧ table.ctl.linkState.aligned = true ∧ memSet table.link.settled 3 = false ∧ (3 : Station) ≠ table.own
      ∧ table.div.collectingFrom 3 = none ∧ third.Runs ∧ third.ctl.linkState.aligned = true
      ∧ memSet third.link.settled 1 = false ∧ (1 : Station) ≠ third.own ∧ third.div.dumpState = .collecting []
      ∧ third.div.freezeGiver = some 1 ∧ third.div.attempts = 2 ∧ third.ctl.linkState = .resync
      ∧ third.port.notices.length < 16 ∧ collecting.Runs ∧ collecting.ctl.linkState.aligned = true
      ∧ memSet collecting.link.settled 1 = false ∧ (1 : Station) ≠ collecting.own
      ∧ collecting.div.dumpState = .collecting [] ∧ collecting.div.freezeGiver = some 1 ∧ collecting.div.attempts < 2 := by
  decide +kernel

theorem witness_FailedFrameIsMinor :
    let cut : Reception := { reception .aligned 1 with ended := false }
    let broken : Reception := { reception .aligned 1 with bytes := frameBytes (header 1) [] ++ [0] }
    let flipped : Reception := { reception .aligned 1 with bytes := (frameBytes (header 1) []).dropLast ++ [0] }
    table.Runs ∧ table.modeAt cut.start = some .aligned ∧ cut.mode = .aligned ∧ slotOf cut.start = some 1
      ∧ memSet table.link.settled 1 = false ∧ (1 : Station) ≠ table.own ∧ table.div.collectingFrom 1 = none
      ∧ checkFrame table.own 1 cut = .failed .length none ∧ checkFrame table.own 1 broken = .failed .length none
      ∧ checkFrame table.own 1 flipped = .failed .frameCheck none ∧ cut.ended = false
      ∧ ({ cut with secondStart := true } : Reception).secondStart = true := by decide +kernel

/-- A whole frame of station `k` that starts `offset` periods from the expected start of slot 1. -/
def shifted (k : Station) (offset : Int) : Reception :=
  { reception .aligned k with start := expectedStart 1 + offset }

/-- Station 2 in RESYNC with pace station `p`. -/
def follower (p : Station) : State :=
  { station 2 .panel .resync with ctl.peers := table.ctl.peers, ctl.pace := some p }

theorem witness_LateAndClash :
    ((∀ o ∈ ([-1440, -1201, -1200, -481, -480, 0, 480, 481, 1200, 1201] : List Int), ∀ k ∈ ([0, 1, 2] : List Station),
      (follower 1).modeAt (shifted k o).start = some .aligned ∧ (shifted k o).mode = .aligned
        ∧ slotOf (shifted k o).start = some 1 ∧ (shifted k o).ended = true ∧ (shifted k o).secondStart = false)
      ∧ (follower 1).Runs ∧ memSet (follower 1).link.settled 1 = false ∧ (1 : Station) ≠ (follower 1).own
      ∧ (follower 1).div.collectingFrom 1 = none)
      ∧ (∀ o ∈ ([-1201, -1200, -481, 481, 1200, 1201] : List Int),
        checkFrame 2 1 (shifted 1 o) = .failed .late (some (header 1)))
      ∧ (∀ k ∈ ([0, 2] : List Station), checkFrame 2 1 (shifted k 0) = .failed .clash (some (header k)))
      ∧ (follower 1).ctl.pace = some (header 1).station ∧ (follower 0).ctl.pace = some (header 0).station
      ∧ (follower 0).ctl.pace ≠ some (header 1).station ∧ (header 2).station = (follower 1).own
      ∧ parseFrame (shifted 1 0).bytes = some ⟨header 1, [], crc16 ((shifted 1 0).bytes.take 19)⟩
      ∧ (shifted 1 0).bytes.length = 21 := by decide +kernel

theorem witness_OwnFrameIsHeard :
    let s : State := { table with link.sending := some (ownFrame (header 0)) }
    s.Runs ∧ s.ctl.linkState.sends = true ∧ s.link.sending = some (ownFrame (header 0)) ∧ (header 0).bye = false
      ∧ (header 0).state.present = true ∧ (header 0).state ≠ .coldstart ∧ LinkState.coldstart.present = false
      ∧ (header 0).station = s.own ∧ (ownFrame (header 0)).msgs = []
      ∧ s.ctl.pace = paceOf s.own s.ctl.linkState s.ctl.peers := by decide +kernel

theorem witness_OutrunFrameLeavesSlot :
    let f : OwnFrame := ownFrame { header 2 with state := .coldstart, tableDigest := none }
    let s : State :=
      { station 2 .panel .integrating with
        ctl.pace := some 0, ctl.peers := #v[some holder, none, none, none], link.sending := some f, link.settled := 0b0001 }
    s.Runs ∧ s.ctl.linkState = .integrating ∧ s.link.sending = some f ∧ f.header.state = .coldstart
      ∧ f.header.bye = false ∧ f.header.station = s.own ∧ f.msgs = []
      ∧ s.ctl.pace = paceOf s.own s.ctl.linkState s.ctl.peers ∧ memSet s.link.settled s.own = false := by decide +kernel

theorem witness_OwnArrivalsThatDetach :
    let bye : OwnFrame := ownFrame { header 0 with bye := true }
    let leaving : State := { table with link.sending := some bye, ctl.leavePending := true }
    let clashing (leave : Bool) : State :=
      { table with link.sending := some (ownFrame (header 0)), ctl.clashCount := 1, ctl.leavePending := leave }
    leaving.Runs ∧ leaving.ctl.linkState.sends = true ∧ leaving.link.sending = some bye ∧ bye.header.bye = true
      ∧ bye.msgs = [] ∧ leaving.ownEntries = [] ∧ leaving.pool.transaction = [] ∧ leaving.port.notices.length < 16
      ∧ (clashing true).Runs ∧ (clashing true).ctl.linkState.sends = true ∧ (header 0).bye = false
      ∧ [] ≠ (ownFrame (header 0)).bytes ∧ (clashing true).ctl.clashCount = 1 ∧ (clashing true).link.major = none
      ∧ (clashing true).ctl.leavePending = true ∧ (clashing false).ctl.leavePending = false
      ∧ (clashing false).ownEntries = [] ∧ (clashing false).pool.transaction = [] := by decide +kernel

theorem witness_MessageReadsBack :
    (Msg.relay 1 (List.replicate 24 0)).Sendable ∧ (Msg.relay 1 [0]).Sendable ∧ (Msg.dumpEnd 255 ⟨.unknown, none, 255, true, 255, 255⟩ 0).Sendable
      ∧ (Msg.resize 0 ⟨63, 63, 63, 63⟩).Sendable ∧ (Msg.destroy 0).Sendable
      ∧ (Msg.dump ⟨0, { placed with arriving := some 255 }, #v[255, 0, 0, 0]⟩).Sendable := by
  refine ⟨⟨by decide, by decide⟩, ⟨by decide, by decide⟩, ⟨by decide, by decide, by decide, by decide⟩,
    ⟨by decide, by decide, by decide, by decide⟩, trivial, ⟨?_, ?_, ?_, rfl⟩, by decide +kernel⟩
  · intro r h; cases h; decide
  · intro p h; cases h
  · intro n h; cases h; decide

theorem witness_FrameReadsBack :
    (header 0).Sendable ∧ ({ header 0 with sample := ⟨.primary, true, 1850⟩ } : Header).Sendable
      ∧ (List.replicate 6 (Msg.destroy 0)).length ≤ 6 ∧ ∀ m ∈ List.replicate 6 (Msg.destroy 0), m.Sendable := by
  refine ⟨by decide, by decide, by decide, ?_⟩
  intro m h
  rw [List.eq_of_mem_replicate h]
  trivial

theorem witness_HeardFrameIsHandedOn :
    let stranger : State := { table with ctl.peers := #v[some holder, none, some holder, none] }
    let led : State := follower 1
    stranger.Runs ∧ stranger.modeAt (reception .aligned 1).start = some .aligned ∧ slotOf (reception .aligned 1).start = some 1
      ∧ memSet stranger.link.settled 1 = false ∧ checkFrame stranger.own 1 (reception .aligned 1) = .heard ⟨header 1, []⟩
      ∧ (1 : Station) ≠ stranger.own ∧ (header 1).bye = false ∧ stranger.div.collectingFrom 1 = none
      ∧ stranger.ctl.peers[(1 : Station)] = none ∧ table.ctl.peers[(1 : Station)] ≠ none ∧ led.ctl.linkState.aligned = true
      ∧ led.ctl.pace = some 1 ∧ checkFrame led.own 1 (reception .aligned 1) = .heard ⟨header 1, []⟩ := by decide +kernel

/-- A BYE frame of station 1; and a frame with one message of a kind. -/
def byeFrame : Reception := { reception .aligned 1 with bytes := frameBytes { header 1 with bye := true } [] }

theorem witness_HeardFrame_collecting_and_bye :
    let coll : State :=
      { station 0 .panel .resync with
        ctl.peers := table.ctl.peers, div.dumpState := .collecting [], div.freezeGiver := some 1, div.attempts := 1 }
    let ended : Reception :=
      { reception .aligned 1 with bytes := frameBytes (header 1) [.dumpEnd 0 PostureState.start 0] }
    coll.Runs ∧ coll.modeAt ended.start = some .aligned ∧ slotOf ended.start = some 1
      ∧ memSet coll.link.settled 1 = false ∧ coll.div.attempts < 2
      ∧ checkFrame coll.own 1 (reception .aligned 1) = .heard ⟨header 1, []⟩
      ∧ checkFrame coll.own 1 ended = .heard ⟨header 1, [Msg.heard (.dumpEnd 0 PostureState.start 0)]⟩
      ∧ (Msg.heard (.dumpEnd 0 PostureState.start 0)).kind = 0x31
      ∧ checkFrame table.own 1 byeFrame = .heard ⟨{ header 1 with bye := true }, []⟩
      ∧ table.modeAt byeFrame.start = some .aligned ∧ table.div.collectingFrom 1 = none
      ∧ table.ctl.peers[(1 : Station)] ≠ none ∧ sensor.ctl.peers[(1 : Station)] = none
      ∧ checkFrame sensor.own 1 byeFrame = .heard ⟨{ header 1 with bye := true }, []⟩
      ∧ table.txns.table = [] ∧ table.port.notices.length < 16 ∧ (withMove.txns.table.map Txn.id).Nodup
      ∧ withMove.div.collectingFrom 1 = none ∧ withMove.ctl.peers[(1 : Station)] ≠ none
      ∧ withMove.modeAt byeFrame.start = some .aligned ∧ withMove.own = table.own
      ∧ withMove.port.notices.length + 2 ≤ 16 := by decide +kernel

theorem witness_PaceFrameIntegrates :
    let cold : State := station 1 .panel .coldstart
    listener.Runs ∧ (reception .free 0).mode = .free ∧ listener.sendsAt (reception .free 0).start = false
      ∧ cold.sendsAt (reception .free 0).start = false
      ∧ checkFrame listener.own ((slotOf (reception .free 0).start).getD 0) (reception .free 0) = .heard ⟨header 0, []⟩
      ∧ (header 0).bye = false ∧ (header 0).state.paces = true ∧ listener.ctl.linkState = .listen
      ∧ listener.div.dumpState = .none ∧ cold.Runs ∧ cold.ctl.linkState = .coldstart ∧ (header 0).station < cold.own
      ∧ checkFrame cold.own ((slotOf (reception .free 0).start).getD 0) (reception .free 0) = .heard ⟨header 0, []⟩
      ∧ listener.ctl.peers[(header 0).station] = none ∧ listener.port.notices.length < 15 := by decide +kernel

theorem witness_CreateHeard :
    let r : Region := ⟨0, 0, 24, 32⟩
    let five : State := { table with tables.lists := #v[[0, 2, 3, 4, 5], [], [], []] }
    let six : State := { table with tables.lists := #v[[0, 2, 3, 4, 5, 6], [], [], []] }
    let full : State := { table with tables.entries := Vector.replicate 16 placed }
    five.HoldsTables ∧ five.div.freezeFlag = false ∧ ({ five with div.freezeFlag := true } : State).HoldsTables ∧ memSet five.port.cfg.panelSet 0 = true ∧ r.inGrid 24 = true
      ∧ (five.surface 2).state = .free ∧ (∀ sf' : Surf, sf' < 2 → (five.surface sf').state ≠ .free)
      ∧ five.tables.lists[(0 : Station)].length + reservedCount five.txns.table 0 < 6
      ∧ (∀ sf : Surf, (full.surface sf).state ≠ .free) ∧ full.HoldsTables ∧ (six.surface 2).state = .free
      ∧ 6 ≤ six.tables.lists[(0 : Station)].length + reservedCount six.txns.table 0 := by decide +kernel

theorem witness_StateMessagesHeard :
    table.HoldsTables ∧ table.div.freezeFlag = false ∧ (table.surface 0).state ≠ .free ∧ (table.surface 0).owner = some 0
      ∧ (table.surface 0).lock = none ∧ (withMove.surface 0).lock ≠ none ∧ (withMove.surface 0).owner = some 0
      ∧ ({ table with div.freezeFlag := true } : State).div.freezeFlag = true ∧ (table.surface 5).state = .free
      ∧ (table.surface 0).owner ≠ some 1 := by decide +kernel

theorem witness_OnlyTableHoldersApply :
    ¬ (station 0 .panel .resync).HoldsTables ∧ ¬ sensor.HoldsTables ∧ sensor.ctl.straps.role = .sensor
      ∧ sensor.ctl.linkState = .active := by decide +kernel

/-- RESTACK and RESIZE: a surface in one list of two, on a panel grid and PARKED, and regions at the grids' edges. -/
theorem witness_RestackAndResizeHeard :
    let s : State := { table with tables.lists := #v[[4, 0, 5], [], [], []] }
    s.HoldsTables ∧ s.div.freezeFlag = false ∧ (s.surface 0).state ≠ .free ∧ (s.surface 0).owner = some 0
      ∧ (0 : Surf) ∈ s.tables.lists[(0 : Station)] ∧ (0 : Surf) ∉ s.tables.lists[(1 : Station)]
      ∧ (s.surface 0).state = .placed ∧ (∃ j, (s.surface 0).target = some (.panel j)) ∧ (s.surface 1).state = .parked
      ∧ (s.surface 1).owner = some 0 ∧ (23 : Nat) < 24 ∧ (24 : Nat) ≤ 24 ∧ (47 : Nat) < 48 ∧ (31 : Nat) < 32 := by
  decide +kernel

/-- The table as station `k` with a panel state holds it. -/
def seenBy (k : Station) (ps : PanelState) : State := { table with ctl.straps.station := k, panel.state := ps }

theorem witness_ProposeOpensEntry_checks :
    let i : TxnId := ⟨0, 9⟩
    let p : Placement := ⟨.panel 2, ⟨0, 0, 24, 32⟩⟩
    (∀ k ∈ ([0, 1, 2] : List Station), (seenBy k .lit).HoldsTables ∧ (seenBy k .lit).div.freezeFlag = false
      ∧ ((seenBy k .lit).surface 0).state ≠ .free ∧ ((seenBy k .lit).surface 0).lock = none
      ∧ ((seenBy k .lit).surface 0).owner = some 0 ∧ (seenBy k .lit).peerActive 0 = true
      ∧ placementOk (seenBy k .lit).port.cfg p = true ∧ (seenBy k .lit).txns.table.length < 8
      ∧ (seenBy k .lit).txns.table.countP (fun e => e.id.orig == i.orig) < 2)
      ∧ (∀ k ∈ destStations table.port.cfg p.target, table.peerActive k = true
        ∧ (0 ∈ table.tables.lists[k] ∨ table.tables.lists[k].length + reservedCount table.txns.table k < 6)) := by
  decide +kernel

/-- A point between two groups of tests, as `Checkpoint1`. -/
structure Checkpoint6 where

theorem witness_ProposeOpensEntry_parts :
    let dests (t : Target) : List Station := destStations table.port.cfg t
    (seenBy 1 .lit).own ≠ 0 ∧ (seenBy 1 .lit).own ∉ dests (.panel 2)
      ∧ (seenBy 2 .dark).own ∈ dests (.panel 2) ∧ (seenBy 2 .dark).panel.state ≠ .lit
      ∧ (seenBy 0 .lit).own = 0 ∧ (seenBy 0 .lit).own ∉ dests (.panel 2) ∧ (seenBy 2 .lit).own ∈ dests (.panel 2)
      ∧ (seenBy 2 .lit).port.cfg.group (seenBy 2 .lit).own ≠ (seenBy 2 .lit).port.cfg.group 0
      ∧ (seenBy 1 .lit).own ∈ dests (.panel 1) ∧ (seenBy 1 .lit).panel.state = .lit
      ∧ (seenBy 1 .lit).port.cfg.group (seenBy 1 .lit).own = (seenBy 1 .lit).port.cfg.group 0 := by decide +kernel

/-- RETURN of the parked surface, with its owner present and absent. -/
theorem witness_ProposeOpensEntry_return :
    let s (p : Option Peer) : State := { table with ctl.peers := #v[p, some holder, some holder, none] }
    (s none).HoldsTables ∧ ((s none).surface 1).state ≠ .free ∧ ((s none).surface 1).lock = none
      ∧ ((s none).surface 1).owner = some 0 ∧ (s none).peerActive 0 = false ∧ (s (some holder)).peerActive 0 = true
      ∧ ((s none).surface 1).ret = some ⟨.panel 1, ⟨2, 2, 4, 4⟩⟩
      ∧ ∀ k ∈ destStations (s none).port.cfg (.panel 1), (s none).peerActive k = true
        ∧ (1 ∈ (s none).tables.lists[k] ∨ (s none).tables.lists[k].length + reservedCount (s none).txns.table k < 6) := by
  decide +kernel

/-- One state for each reason of a void PROPOSE. -/
theorem witness_VoidProposes :
    let third : Station := 2
    let six : State := { table with tables.lists := #v[[0], [], [2, 3, 4, 5, 6, 7], []] }
    let two : State := { withMove with txns.table := [moving, { moving with id := ⟨0, 1⟩ }] }
    let eight : State := { table with txns.table := List.replicate 8 { moving with id := ⟨3, 0⟩ } }
    ((table.HoldsTables ∧ placementOk table.port.cfg ⟨.panel 2, ⟨0, 0, 24, 32⟩⟩ = true
      ∧ ({ table with div.freezeFlag := true } : State).div.freezeFlag = true ∧ (table.surface 5).state = .free
      ∧ (withMove.surface 0).lock ≠ none ∧ (table.surface 0).ret = none ∧ (table.surface 0).lock = none)
      ∧ two.HoldsTables ∧ 2 ≤ two.txns.table.countP (fun e => e.id.orig == 0) ∧ (two.surface 1).lock = none
      ∧ 8 ≤ eight.txns.table.length)
      ∧ (∃ k ∈ destStations table.port.cfg (.panel third),
        ({ table with ctl.peers := #v[some holder, none, none, none] } : State).peerActive k = false)
      ∧ (∀ k ∈ destStations six.port.cfg (.panel third), six.peerActive k = true)
      ∧ (∃ k ∈ destStations six.port.cfg (.panel third), (0 : Surf) ∉ six.tables.lists[k]
        ∧ 6 ≤ six.tables.lists[k].length + reservedCount six.txns.table k) := by decide +kernel

theorem witness_VerifiedDumpInstalls :
    let s : State :=
      { station 0 .panel .resync with div.dumpState := .collecting [], div.freezeGiver := some 1, div.freezeCount := 1 }
    s.tracking = true ∧ s.div.dumpState = .collecting [] ∧ s.div.freezeGiver = some 1 ∧ s.div.freezeCount ≠ 0
      ∧ rebuildTables s.port.cfg [] = some Tables.empty ∧ postureStateOk ⟨.band .flat, none, 15, true, 32, 10⟩ = true := by
  decide +kernel

theorem witness_FailedInstallAsksAgain :
    let s (ls : LinkState) : State :=
      { station 0 .panel ls with
        div.dumpState := .collecting [], div.freezeGiver := some 1, div.freezeCount := 1, div.attempts := 1 }
    ∀ ls ∈ ([.integrating, .resync] : List LinkState), (s ls).tracking = true ∧ (s ls).div.dumpState = .collecting []
      ∧ (s ls).div.freezeGiver = some 1 ∧ (s ls).div.freezeCount ≠ 0 ∧ (1 : Nat) ≠ ([] : List DumpRecord).length
      ∧ (s ls).div.attempts < 2 ∧ (s ls).ctl.linkState = ls := by decide +kernel

theorem witness_LastReadyCommits :
    (withMove.HoldsTables ∧ withMove.entry? moving.id = some moving ∧ (withMove.txns.table.map Txn.id).Nodup
      ∧ memSet moving.participants 1 = true ∧ addSet moving.answered 1 = moving.participants ∧ moving.retFlag = false
      ∧ moving.id.orig = withMove.own) ∧ withMove.port.cfg.InRange := ⟨by decide +kernel, default_inRange⟩

/-- Of two open entries with one id the READY answers the first; the second stays as it is. -/
theorem test_ready_sameId :
    let second : Txn := { moving with surf := 1 }
    let s : State := { withMove with txns.table := [moving, second], txns.ownOpen := 2 }
    let t : State := s.takeMsg 1 (Msg.heard (.ready moving.id))
    t.txns.table = [second] ∧ (t.surface 0).target = some (.panel 1) ∧ t.surface 1 = s.surface 1 := by decide +kernel

/-- A commit with the return flag, of a PLACED and of a PARKED surface. -/
theorem witness_LastReadyKeepsReturn :
    let s (e : Entry) : State :=
      { withMove with
        txns.table := [{ moving with retFlag := true }]
        tables.entries := table.tables.entries.set 0 { e with lock := some moving.id } }
    (∀ e ∈ [placed, parked], (s e).HoldsTables ∧ (s e).entry? moving.id = some { moving with retFlag := true }
      ∧ ((s e).txns.table.map Txn.id).Nodup ∧ memSet moving.participants 1 = true
      ∧ addSet moving.answered 1 = moving.participants)
      ∧ ((s placed).surface 0).target = some (.panel 0) ∧ ((s placed).surface 0).region = some ⟨0, 0, 10, 10⟩
      ∧ ((s parked).surface 0).target = none := by decide +kernel

/-- The commit as the originator and old owner (station 0) and as the new owner (station 1) see it. -/
theorem witness_CommitGivesNotices :
    let s (k : Station) (n : Nat) : State :=
      { withMove with ctl.straps.station := k, port.notices := List.replicate n note }
    ∀ k ∈ ([0, 1] : List Station), (s k 14).HoldsTables ∧ (s k 14).entry? moving.id = some moving
      ∧ ((s k 14).surface moving.surf).owner = some 0
      ∧ (destStations (s k 14).port.cfg moving.dest.target).head? = some 1 ∧ moving.id.orig = 0
      ∧ (s k 14).port.notices.length + 2 ≤ 16 := by decide +kernel

theorem witness_RefuseAndCancelRemove :
    withMove.HoldsTables ∧ withMove.entry? moving.id = some moving ∧ (withMove.txns.table.map Txn.id).Nodup
      ∧ memSet moving.participants 1 = true ∧ memSet moving.participants 2 = false ∧ (2 : Station) ≠ moving.id.orig
      ∧ withMove.entry? ⟨3, 9⟩ = none := by decide +kernel

theorem witness_RequestsAndFreezeEnds :
    let frozen (n : Nat) (d : DumpState) (a : Nat) : State :=
      { table with div.freezeCount := n, div.dumpState := d, div.attempts := a }
    (frozen 1 .none 0).tracking = true ∧ postureStateOk PostureState.start = true ∧ (frozen 0 .asked 0).div.freezeCount = 0
      ∧ (frozen 1 .none 0).div.freezeCount ≠ 0 ∧ ([.none, .asked, .waiting] : List DumpState).all (fun d => !(frozen 1 d 0).div.dumpState.isCollecting) = true
      ∧ (0 : Station) = (frozen 0 .asked 0).own ∧ (frozen 0 .asked 0).div.dumpState = .asked ∧ (frozen 8 .none 0).Runs
      ∧ (frozen 8 .none 0).div.freezeCount = 8 ∧ (frozen 8 .none 0).div.dumpState.isCollecting = false
      ∧ (frozen 8 (.collecting []) 1).div.dumpState.isCollecting = true ∧ (frozen 8 (.collecting []) 1).div.attempts < 2
      ∧ sensor.tracking = false ∧ (frozen 7 .none 0).div.freezeCount ≠ 8 := by decide +kernel

theorem witness_RelayHeard :
    let full (n : Nat) : State := { table with port.notices := List.replicate n note }
    table.ctl.linkState ≠ .halted ∧ (1 : Station) ≠ table.own ∧ (0 : Station) = table.own
      ∧ (full 15).port.notices.length < 16 ∧ 16 ≤ (full 16).port.notices.length ∧ (full 16).pool.dropA = none
      ∧ ({ full 16 with pool.dropA := some ⟨.relay, .poolFull, 0x40, none, 0⟩ } : State).pool.dropA ≠ none := by
  decide +kernel

theorem witness_TailStartCounts :
    listener.Runs ∧ listener.ctl.linkState = .listen ∧ sensor.Runs ∧ sensor.ctl.linkState = .active
      ∧ sensor.ctl.straps.role = .sensor ∧ sensor.ctl.pace = some sensor.own ∧ sensor.PaceIsLowest
      ∧ 2 ≤ ({ listener with ctl.listenCount := 2 } : State).ctl.listenCount
      ∧ ({ listener with ctl.listenCount := 1 } : State).ctl.listenCount = 1 := by decide +kernel

theorem witness_ColdstartCountsUp :
    let s (n : Nat) : State := { station 1 .panel .coldstart with ctl.coldstartCount := n, ctl.pace := some 1 }
    (∀ n ∈ [0, 6, 7], (s n).Runs ∧ (s n).ctl.linkState = .coldstart ∧ (s n).ctl.coldstartCount = n
      ∧ (s n).ctl.syncMissed = 0 ∧ (s n).div.ownDigest = none ∧ (s n).div.dumpState = .none
      ∧ (s n).angle.samples = #v[none, none, none, none] ∧ Claim.NoLossDue (s n) ∧ (s n).pool.relay = []
      ∧ (s n).panel.state ≠ .blankPending) ∧ (s 7).ConfigFits := by exact ⟨by decide +kernel, default_inRange⟩

/-- In a full cycle and in the cycle of the alignment, with the first full cycle to come and with the second, at a SENSOR
station and at a PANEL station with an ACTIVE pace of its config digest, of another one, and a COLDSTART pace. -/
theorem witness_IntegrationCountsUp :
    let s (r : Role) (q : Peer) (full : Bool) (n : Nat) : State :=
      { station 2 r .integrating with
        ctl.pace := some 0, ctl.peers := #v[some q, none, none, none], link.silence := #v[1, 0, 0, 0]
        ctl.fullCycle := full, ctl.integrationCount := n }
    let differs : Peer := { holder with configDigest := none }
    let cold : Peer := { holder with state := .coldstart }
    (∀ t ∈ [s .sensor holder false 1, s .sensor holder true 0, s .sensor holder true 1, s .panel holder true 1,
        s .panel differs true 1, s .panel cold true 1],
      t.Runs ∧ t.ctl.linkState = .integrating ∧ t.ctl.pace = some 0 ∧ (0 : Station) ≠ t.own
        ∧ memSet t.ctl.syncMissed 0 = false ∧ Claim.NoLossDue t ∧ t.div.requestCycle = false ∧ t.div.freezeCount ≠ 8
        ∧ t.ctl.joinPending = false ∧ t.ctl.mismatchReported = false ∧ t.pool.relay = []
        ∧ t.angle.samples = #v[none, none, none, none] ∧ t.panel.state ≠ .blankPending)
      ∧ holder.state = .active ∧ holder.role = .panel ∧ cold.state = .coldstart
      ∧ (s .panel holder true 1).port.configDigest = some 5 ∧ holder.configDigest = some 5
      ∧ differs.configDigest ≠ some 5 := by decide +kernel

theorem witness_QuietTailStart :
    let s : State :=
      { withMove with
        link.heard := 0b0110, angle.ps.stale := 8, txns.table := [{ moving with cyclesLeft := 2 }]
        txns.offers := [{ offer with cyclesLeft := 2 }], pool.relay := [⟨1, [1], 30⟩] }
    (s.Runs ∧ s.HoldsTables ∧ s.ctl.pace = some s.own
      ∧ Claim.NoLossDue s
      ∧ s.div.candidates = #v[none, none, none, none] ∧ s.div.requestCycle = false ∧ s.div.freezeCount ≠ 8
      ∧ s.angle.samples = #v[none, none, none, none] ∧ s.angle.ps.stale ≤ 8 ∧ s.panel.state ≠ .blankPending
      ∧ (∀ e ∈ s.txns.table, 2 ≤ e.cyclesLeft) ∧ (∀ o ∈ s.txns.offers, o.state = .pending → 2 ≤ o.cyclesLeft)
      ∧ ∀ r ∈ s.pool.relay, r.age + 1 < s.port.cfg.relayAgeLimit) ∧ s.port.cfg.InRange := by
  exact ⟨by decide +kernel, default_inRange⟩

/-- A point between two groups of tests, as `Checkpoint1`. -/
structure Checkpoint7 where

theorem witness_PostureStepOfTail :
    let s (p : Posture) (c : Option Band) (n : Nat) : State :=
      { sensor with
        angle.samples := (#v[none, none, none, none] : Vector (Option Sample) 4).set 3 (some ⟨.primary, true, 730⟩)
        angle.ps := ⟨p, c, n, false, 0, 0⟩ }
    ((s .unknown none 0).Runs ∧ (s .unknown none 0).ctl.linkState = .active
      ∧ (s .unknown none 0).ctl.straps.role = .sensor ∧ (s .unknown none 0).ctl.pace = some (s .unknown none 0).own
      ∧ (s .unknown none 0).PaceIsLowest ∧ (s .unknown none 0).angle.ps.distrust = false
      ∧ inWidened ConfigItems.default .peek 729 = true ∧ inWidened ConfigItems.default .peek 730 = false
      ∧ inWidened ConfigItems.default .book 670 = true ∧ bandOf ConfigItems.default 730 = .book
      ∧ (s (.band .peek) (some .book) 1).angle.ps.dwell + 1 < ConfigItems.default.dwell
      ∧ ConfigItems.default.dwell ≤ (s (.band .peek) (some .book) 2).angle.ps.dwell + 1)
      ∧ (s .unknown none 0).port.cfg.InRange := by exact ⟨by decide +kernel, default_inRange⟩

/-- One primary at 700 and two secondaries 151 and 150 away: over the limit and at it; posture, counts and peers as the
clauses ask. -/
theorem witness_MonitorsOfTail :
    let s (d : Bool) (run : Nat) : State :=
      { sensor with
        angle.samples := (((#v[none, none, none, none] : Vector (Option Sample) 4).set 3 (some ⟨.primary, true, 700⟩)).set 0
          (some ⟨.secondary, true, 851⟩)).set 1 (some ⟨.secondary, true, 851⟩)
        angle.ps := ⟨.band .book, none, 0, d, run, 0⟩, angle.disagreeRun := 7 }
    (s false 7).Runs ∧ (s false 7).ctl.linkState = .active ∧ (s false 7).ctl.straps.role = .sensor
      ∧ (s false 7).ctl.pace = some (s false 7).own ∧ (s false 7).PaceIsLowest
      ∧ 700 + (s false 7).port.cfg.disagreeLimit < 851 ∧ ¬ 700 + (s false 7).port.cfg.disagreeLimit < 850
      ∧ (s false 7).port.cfg.disagreeCount = 7 + 1 ∧ 1 ≤ (s false 7).port.cfg.disagreeCount
      ∧ inWidened (s false 7).port.cfg .book 700 = true ∧ inWidened (s true 7).port.cfg .book 851 = true
      ∧ (∀ q : Station, q ≠ (s false 7).own → (s false 7).ctl.peers[q] ≠ none → memSet (s false 7).link.heard q = true)
      ∧ (s false 7).port.notices.length < 16 := by decide +kernel

/-- Two groups of one candidate each, of which the lower station's is the reference, and one of two against one of one. -/
theorem witness_IsReference :
    let w : Vector (Option Word) 4 := #v[none, some 1, some 2, none]
    Claim.IsReference w 1 1 := by decide +kernel

theorem witness_IsReference_largest :
    let w : Vector (Option Word) 4 := #v[none, some 1, some 2, some 2]
    Claim.IsReference w 2 2 := by decide +kernel

/-- With an open own MOVE and an unsent RETURN. -/
theorem witness_DivergenceStartsResync :
    let t : State :=
      { withMove with
        link.heard := 0b0110, div.ownDigest := some 3, div.candidates := #v[none, some 1, some 2, none]
        txns.table := [{ moving with cyclesLeft := 2 }], pool.transaction := [.proposeReturn ⟨0, 1⟩ 1] }
    (t.Runs ∧ t.HoldsTables ∧ t.ctl.pace = some t.own ∧ (1 : Station) ≠ t.own ∧ t.ctl.peers[(1 : Station)] = some holder
      ∧ holder.state = .active
      ∧ Claim.NoLossDue t
      ∧ t.div.ownDigest = some 3 ∧ (3 : Word) ≠ 1 ∧ t.div.candidates = #v[none, some 1, some 2, none])
      ∧ t.ctl.syncMissed = 0
      ∧ t.div.requestCycle = false ∧ t.div.freezeCount = 0 ∧ (∀ e ∈ t.txns.table, 2 ≤ e.cyclesLeft)
      ∧ t.link.sending = none ∧ t.angle.samples = #v[none, none, none, none] ∧ t.angle.ps.stale ≤ 8
      ∧ t.panel.state ≠ .blankPending ∧ t.port.notices.length + 2 < 16 := by decide +kernel

/-- A request cycle at an ACTIVE station, at a waiting requester in RESYNC and at a waiting one that joins, with a
candidate and without. -/
theorem witness_RequestCycleTakesGiver :
    let req (t : State) (c : Vector (Option Word) 4) : State :=
      { t with
        ctl.peers := table.ctl.peers, ctl.joinPending := t.ctl.linkState == .integrating, ctl.pace := some 0
        link.heard := 0b0111, div.requestCycle := true, div.freezeCount := 7, div.candidates := c
        div.dumpState := .waiting, div.attempts := 1 }
    let one : Vector (Option Word) 4 := #v[some 2, none, none, none]
    (∀ ls ∈ ([.active, .resync, .integrating] : List LinkState),
      let s : State := req (station 3 .panel ls) one
      s.Runs ∧ s.ctl.straps.role = .panel ∧ (s.ctl.linkState = .integrating → s.ctl.joinPending = true)
        ∧ s.otherTableHolder = true ∧ s.ctl.linkState = ls ∧ s.ctl.pace = some 0 ∧ memSet s.ctl.syncMissed 0 = false
        ∧ Claim.NoLossDue s
        ∧ s.div.requestCycle = true ∧ s.div.freezeCount ≠ 8 ∧ s.div.candidates = one
        ∧ s.div.ownDigest = none ∧ s.div.dumpState = .waiting ∧ s.div.attempts < 2)
      ∧ (req (station 3 .panel .resync) #v[none, none, none, none]).div.candidates = #v[none, none, none, none]
      ∧ (req (station 3 .panel .resync) one).ctl.linkState ≠ .active ∧ table.div.dumpState ≠ .waiting := by decide +kernel

/-- A pending blank in HALTED and in ACTIVE, idle, and not idle with two tail starts left and with one. -/
theorem witness_PendingBlankAtTail :
    let blanking (t : State) (n : Nat) (d : Bool) : State :=
      { t with
        panel.state := .blankPending, panel.blankWait := n, panel.darkMark := d, link.heard := 0b0110, angle.ps.stale := 8 }
    (∀ s ∈ [blanking table 2 false, blanking withMove 2 false, blanking withMove 1 false, blanking withMove 1 true],
      s.Runs ∧ s.ctl.straps.role = .panel ∧ s.panel.state = .blankPending ∧ s.ctl.linkState = .active
        ∧ s.ctl.pace = some s.own ∧ Claim.NoLossDue s
        ∧ s.div.candidates = #v[none, none, none, none] ∧ s.div.requestCycle = false ∧ s.div.freezeCount ≠ 8
        ∧ s.angle.samples = #v[none, none, none, none] ∧ s.angle.ps.stale ≤ 8 ∧ ∀ e ∈ s.txns.table, 2 ≤ e.cyclesLeft)
      ∧ (blanking table 2 false).panelIdle = true ∧ (blanking withMove 2 false).panelIdle = false
      ∧ (blanking withMove 1 true).panel.darkMark = true ∧ (blanking (station 0 .panel .halted) 1 false).Runs
      ∧ (blanking (station 0 .panel .halted) 1 false).ctl.linkState = .halted
      ∧ (blanking (station 0 .panel .halted) 1 false).panelIdle = true := by decide +kernel

theorem witness_LossesBySilence :
    let s : State :=
      { station 0 .panel .resync with ctl.peers := table.ctl.peers, link.silence := #v[0, 3, 2, 0] }
    s.Runs ∧ s.ctl.linkState ≠ .halted ∧ (s.ctl.peers[(1 : Station)]).isSome = true ∧ memSet s.link.heard 1 = false
      ∧ 3 ≤ s.link.silence[(1 : Station)] ∧ s.link.silence[(2 : Station)] < 3 ∧ s.ctl.linkState ≠ .active
      ∧ s.port.notices.length < 16 := by decide +kernel

/-- Two stations lost at one moment at the originator of an open MOVE to one of them, with a relay to each. -/
theorem witness_LossesTaken :
    let s : State :=
      { withMove with link.silence := #v[0, 3, 255, 0], pool.relay := [⟨2, [2], 0⟩, ⟨1, [1], 0⟩] }
    s.Runs ∧ s.HoldsTables ∧ (s.txns.table.map Txn.id).Nodup ∧ moving.id.orig = s.own
      ∧ memSet moving.participants 1 = true ∧ (s.ctl.peers[(1 : Station)]).isSome = true
      ∧ (s.ctl.peers[(2 : Station)]).isSome = true ∧ memSet s.link.heard 1 = false ∧ memSet s.link.heard 2 = false
      ∧ 3 ≤ s.link.silence[(2 : Station)] ∧ s.port.notices.length + 3 ≤ 16
      ∧ (after .lossDeclaration s).port.notices
          = [.peer 1 .lostSilent, .txnDone ⟨0, 0⟩ 0 (.peerLost 1), .peer 2 .lostSilent]
      ∧ (after .lossDeclaration s).pool.dropA = some ⟨.relay, .destLost, 0x40, some 1, 65535⟩
      ∧ (after .lossDeclaration s).pool.dropsRelay = 2 := by decide +kernel

theorem witness_LinkStateCountLimits :
    let cold (n : Nat) : State := { station 0 .panel .coldstart with ctl.coldstartCount := n }
    let joining (d : Option Word) (m : Bool) : State :=
      { station 2 .panel .integrating with
        ctl.integrationCount := 2, ctl.pace := some 0, ctl.mismatchReported := m
        ctl.peers := #v[some { holder with configDigest := d }, none, none, none] }
    listener.Runs ∧ listener.ctl.linkState = .listen ∧ listener.ctl.listenCount = 0 ∧ table.ctl.linkState ≠ .listen
      ∧ ({ listener with ctl.listenCount := 1 } : State).ctl.listenCount ≠ 0
      ∧ (cold 8).ctl.linkState = .coldstart ∧ (cold 8).ctl.coldstartCount = 8 ∧ (cold 7).ctl.coldstartCount < 8
      ∧ (joining (some 5) false).Runs ∧ (joining (some 5) false).ctl.linkState = .integrating
      ∧ (joining (some 5) false).ctl.integrationCount = 2 ∧ (joining (some 5) false).ctl.straps.role = .panel
      ∧ (joining (some 5) false).ctl.joinPending = false ∧ (joining (some 5) false).ctl.pace = some 0
      ∧ (0 : Station) ≠ (joining (some 5) false).own ∧ (joining (some 5) false).ctl.peers[(0 : Station)] = some holder
      ∧ holder.state = .active ∧ holder.role = .panel ∧ holder.configDigest = (joining (some 5) false).port.configDigest
      ∧ (joining none false).ctl.mismatchReported = false ∧ none ≠ (joining none false).port.configDigest
      ∧ (joining none true).ctl.mismatchReported = true
      ∧ ({ station 3 .sensor .integrating with ctl.integrationCount := 2 } : State).ctl.straps.role = .sensor := by
  decide +kernel

/-- INTEGRATED with a COLDSTART pace, with a SENSOR pace and without or with an ACTIVE PANEL station beside it, and with
a pending join. -/
theorem witness_IntegrationWaitsOrStandsAlone :
    let joining (pace : Peer) (other : Option Peer) (pending : Bool) : State :=
      { station 2 .panel .integrating with
        ctl.integrationCount := 2, ctl.pace := some 0, ctl.joinPending := pending
        ctl.peers := #v[some pace, other, none, none] }
    let senses : Peer := { holder with role := .sensor }
    let differs : Peer := { holder with configDigest := none }
    (∀ s ∈ [joining { holder with state := .coldstart } none false, joining senses none false,
        joining senses (some holder) false, joining senses (some differs) false, joining senses none true,
        joining senses (some holder) true],
      s.Runs ∧ s.ctl.linkState = .integrating ∧ s.ctl.integrationCount = 2 ∧ s.ctl.straps.role = .panel
        ∧ s.ctl.pace = some 0 ∧ (1 : Station) ≠ s.own ∧ s.ctl.mismatchReported = false ∧ s.port.configDigest = some 5)
      ∧ senses.state ≠ .coldstart ∧ senses.role = .sensor ∧ holder.state = .active ∧ holder.role = .panel
      ∧ holder.configDigest = some 5 ∧ differs.configDigest ≠ some 5
      ∧ (∀ k : Station, (joining senses none true).peerTableHolder k = false)
      ∧ (joining senses (some holder) true).peerTableHolder 1 = true := by decide +kernel

/-- Station 2 of a role in a link state, with pace station 0 and a sync miss count. -/
def paced (r : Role) (ls : LinkState) (n : Nat) (missed : StationSet) (leave : Bool) : State :=
  { station 2 r ls with
    ctl.pace := some 0, ctl.peers := #v[some holder, none, none, none], ctl.syncMissCount := n
    ctl.syncMissed := missed, ctl.leavePending := leave, ctl.fullCycle := true, link.silence := #v[1, 0, 0, 0] }

theorem witness_SecondSyncMissDetaches :
    (∀ s ∈ [paced .sensor .integrating 1 0b0001 false, paced .sensor .active 1 0b0001 true, paced .panel .active 0 0b0001 false,
        paced .panel .resync 1 0b1110 true],
      s.Runs ∧ s.ctl.linkState.aligned = true ∧ s.ctl.pace = some 0 ∧ (0 : Station) ≠ s.own ∧ Claim.NoLossDue s
        ∧ s.pool.relay = [] ∧ s.div.requestCycle = false ∧ s.div.freezeCount ≠ 8 ∧ s.panel.state ≠ .blankPending
        ∧ s.div.ownDigest = none ∧ s.ctl.integrationCount + 1 < 2 ∧ s.link.major = none ∧ s.counted = []
        ∧ s.angle.samples = #v[none, none, none, none] ∧ s.angle.ps.stale ≤ 8 ∧ s.port.notices.length < 16)
      ∧ memSet (0b0001 : StationSet) 0 = true ∧ memSet (0b1110 : StationSet) 0 = false := by decide +kernel

/-- A frame of pace station 0 whose start is 50 µs and one tick late. -/
def latePace : Instr :=
  .frameArrival (.received { reception .aligned 0 with start := expectedStart 0 + 1201 })

/-- The pace station's frame is LATE outside the sync window, and does not count as heard: no loss falls due. -/
theorem witness_SecondSyncMissDetaches_late :
    let first : State := after latePace (paced .sensor .active 0 0 false)
    memSet first.ctl.syncMissed 0 = true ∧ memSet first.link.heard 0 = false ∧ Claim.NoLossDue first
      ∧ first.ctl.syncMissCount = 0 := by decide +kernel

/-- The same in two cycles: the silence count of the pace station is 1 at the second tail start, which detaches. -/
theorem witness_SecondSyncMissDetaches_lateAgain :
    let first : State := after latePace { paced .sensor .active 0 0 false with link.silence := #v[0, 0, 0, 0] }
    let second : State := after latePace (after (.tailStart TailWork.all) first)
    Claim.NoLossDue second ∧ memSet second.ctl.syncMissed 0 = true ∧ memSet second.link.heard 0 = false
      ∧ second.link.silence[(0 : Station)] = 1 ∧ second.ctl.syncMissCount = 1
      ∧ (after (.tailStart TailWork.all) second).ctl.linkState = .listen := by decide +kernel

theorem witness_NoPaceDetaches :
    let s (ls : LinkState) : State := { station 2 .panel ls with link.heard := 0b0001, ctl.leavePending := true }
    ∀ ls ∈ ([.integrating, .resync] : List LinkState), (s ls).Runs ∧ (s ls).ctl.linkState = ls
      ∧ (s ls).ctl.fullCycle = false ∧ (s ls).ctl.integrationCount < 2 ∧ (s ls).ctl.pace = none
      ∧ Claim.NoLossDue (s ls)
      ∧ (s ls).pool.relay = [] ∧ (s ls).div.requestCycle = false ∧ (s ls).div.freezeCount ≠ 8
      ∧ (s ls).panel.state ≠ .blankPending ∧ (s ls).counted = [] ∧ (s ls).angle.samples = #v[none, none, none, none]
      ∧ (s ls).angle.ps.stale ≤ 8 ∧ (s ls).port.notices.length < 16 := by decide +kernel

theorem witness_PostureCountLimits :
    let s (p : Posture) (n stale : Nat) : State := { table with angle.ps := ⟨p, some .flat, n, false, 0, stale⟩ }
    (s (.band .book) 3 10).Runs ∧ (s (.band .book) 3 10).ctl.linkState.present = true
      ∧ (s (.band .book) 3 10).angle.ps.stale = 10 ∧ (s (.band .book) 3 10).angle.ps.posture ≠ .unknown
      ∧ (s .unknown 3 10).angle.ps.posture = .unknown ∧ (s .unknown 3 9).angle.ps.stale ≠ 10
      ∧ listener.ctl.linkState.present = false ∧ (s .unknown 3 0).angle.ps.candidate = some .flat
      ∧ (s .unknown 3 0).port.cfg.dwell ≤ (s .unknown 3 0).angle.ps.dwell ∧ (s .unknown 3 0).angle.ps.posture ≠ .band .flat
      ∧ (s .unknown 2 0).angle.ps.dwell < (s .unknown 2 0).port.cfg.dwell := by decide +kernel

/-- A point between two groups of tests, as `Checkpoint1`. -/
structure Checkpoint8 where

theorem witness_TransactionCountLimits :
    let s : State :=
      { withMove with
        txns.table := [{ moving with cyclesLeft := 0 }], txns.offers := [{ offer with cyclesLeft := 0 }] }
    s.Runs ∧ s.HoldsTables ∧ (s.txns.table.map Txn.id).Nodup ∧ (s.txns.offers.map Offer.id).Nodup
      ∧ s.txns.table = [{ moving with cyclesLeft := 0 }] ∧ moving.id.orig = s.own ∧ s.port.notices.length < 16 := by
  decide +kernel

theorem witness_AgedRelaysAreDropped :
    let s (n : Nat) : State := { table with pool.relay := [⟨1, [1], n⟩], pool.dropsRelay := 65535 }
    (s 32).Runs ∧ (s 32).pool.dropsRelay ≤ 65535 ∧ (s 32).pool.dropA = none
      ∧ (s 32).pool.relay.filter (fun r => (s 32).port.cfg.relayAgeLimit ≤ r.age) = [⟨1, [1], 32⟩]
      ∧ (s 31).pool.relay.filter (fun r => (s 31).port.cfg.relayAgeLimit ≤ r.age) = [] := by decide +kernel

theorem witness_CycleCloseAndSensorRead :
    let asked : State := { withMove with div.requestCycle := true }
    let answer (w p r : Bool) : SensorAnswer := ⟨w, p, r, 0, 0⟩
    table.Runs ∧ ¬ sensor.HoldsTables ∧ sensor.div.requestCycle = false
      ∧ ({ table with div.freezeFlag := true } : State).div.freezeFlag = true ∧ asked.HoldsTables
      ∧ asked.div.requestCycle = true ∧ (asked.txns.table.map Txn.id).Nodup
      ∧ ({ sensor with angle.read := .running } : State).angle.read = .running ∧ sensor.angle.read ≠ .running
      ∧ (answer true true true).ackWrite = true ∧ (answer true true true).ackPointer = true
      ∧ (answer true true true).ackRead = true ∧ (answer false true true).ackWrite = false
      ∧ (answer true false true).ackPointer = false ∧ (answer true true false).ackRead = false := by decide +kernel

theorem witness_ArrivalsCountedAndTimedOut :
    let arriving (n : Nat) : State :=
      { table with
        tables.entries := (Vector.replicate 16 Entry.free).set 0
          { placed with arriving := some n, implicit := true, ret := some ⟨.panel 2, ⟨0, 0, 24, 32⟩⟩ } }
    ((arriving 2).Runs ∧ (arriving 2).HoldsTables ∧ (arriving 2).div.freezeFlag = false
      ∧ (arriving 2).div.requestCycle = false ∧ (∀ t ∈ passTargets (arriving 2).port.cfg, (arriving 2).usable t = true)
      ∧ (∀ sf : Surf, ∀ p ∈ ((arriving 2).surface sf).ret, ((arriving 2).surface sf).implicit = true →
          ((arriving 2).surface sf).lock = none → (arriving 2).usable p.target = true →
          ((arriving 2).ruleOf p.target).restore = false)
      ∧ (∀ sf : Surf, (((arriving 2).surface sf).arriving.all (2 ≤ ·)) = true)
      ∧ ((arriving 2).surface 0).implicit = true ∧ ((arriving 2).surface 0).ret = some ⟨.panel 2, ⟨0, 0, 24, 32⟩⟩
      ∧ ((arriving 0).surface 0).arriving = some 0 ∧ ((arriving 0).surface 0).lock = none
      ∧ (∀ sf' : Surf, sf' ≠ 0 → ((arriving 0).surface sf').arriving ≠ some 0)
      ∧ (∀ sf' : Surf, ((arriving 1).surface sf').arriving ≠ some 0)
      ∧ ({ arriving 0 with div.freezeFlag := true } : State).div.freezeFlag = true ∧ ¬ sensor.HoldsTables) := by
  decide +kernel

/-- One surface alone in the table. -/
def alone (e : Entry) (l : Vector (List Surf) 4) (p : Posture) : State :=
  { table with
    tables := ⟨(Vector.replicate 16 Entry.free).set 0 e, l⟩
    angle.ps := { PostureState.start with posture := p } }

theorem witness_RehomePassMoves :
    let out : State := alone placed #v[[0], [], [], []] (.band .closed)
    let gone : State := { out with ctl.peers := #v[some holder, some holder, none, none] }
    let back : State := alone { parked with owner := some 2 } #v[[], [], [], []] (.band .book)
    (∀ s ∈ [out, gone], s.Runs ∧ s.HoldsTables ∧ s.div.freezeFlag = false ∧ s.div.requestCycle = false ∧ s.txns.table = []
      ∧ memSet s.port.cfg.panelSet 0 = true ∧ (s.surface 0).state = .placed ∧ (s.surface 0).target = some (.panel 0)
      ∧ (s.surface 0).region = some ⟨0, 0, 10, 10⟩ ∧ (s.surface 0).owner = some 0 ∧ (s.surface 0).lock = none
      ∧ (s.surface 0).implicit = false ∧ (s.surface 0).arriving = none
      ∧ (∀ sf' : Surf, sf' ≠ 0 → s.surface sf' = Entry.free)
      ∧ s.tables.lists = (#v[[], [], [], []] : Vector (List Surf) 4).set 0 [0] ∧ s.usable (.panel 0) = false)
      ∧ out.usable (.panel 2) = true ∧ (out.ruleOf (.panel 0)).fallbacks = [.panel 2]
      ∧ (∀ f ∈ (gone.ruleOf (.panel 0)).fallbacks, gone.usable f = false)
      ∧ back.Runs ∧ back.HoldsTables ∧ back.div.freezeFlag = false ∧ back.div.requestCycle = false ∧ back.txns.table = []
      ∧ (back.surface 0).state = .parked ∧ (back.surface 0).target = none ∧ (back.surface 0).owner = some 2
      ∧ (back.surface 0).ret = some ⟨.panel 1, ⟨2, 2, 4, 4⟩⟩ ∧ (back.surface 0).implicit = true
      ∧ (back.surface 0).lock = none ∧ (back.surface 0).arriving = none
      ∧ (∀ sf' : Surf, sf' ≠ 0 → back.surface sf' = Entry.free) ∧ back.tables.lists = #v[[], [], [], []]
      ∧ back.usable (.panel 1) = true ∧ (back.ruleOf (.panel 1)).restore = true := by decide +kernel

/-- The notices of the two moves: at the old owner, at the new one of another render group, with room for all. -/
theorem witness_RehomeNotices :
    (∀ s ∈ [alone placed #v[[0], [], [], []] (.band .closed)], s.own = 0 ∧ s.port.cfg.group 0 ≠ s.port.cfg.group 2
      ∧ s.port.notices.length + 2 ≤ 16)
      ∧ ({ alone placed #v[[0], [], [], []] (.band .closed) with ctl.straps.station := 2 } : State).own = 2 := by
  decide +kernel

theorem witness_AccessForms :
    let waiting : State := { table with port.access := some ⟨0x01, some 0x31, [0x00]⟩ }
    table.Runs ∧ ([1, 2] : List Byte).length ≠ 5 ∧ ([] : List Byte).length < 2 ∧ 25 < (List.replicate 26 (0 : Byte)).length
      ∧ waiting.port.access = some ⟨0x01, some 0x31, [0x00]⟩ ∧ ([0x00] : List Byte).length ≤ 1
      ∧ 0 < ([0x00] : List Byte).length ∧ table.port.access = none := by decide +kernel

theorem witness_RequestBytes :
    (List.replicate 255 (0 : Byte)).length ≤ 255 ∧ ([] : List Byte).length < (1 : Byte).toNat
      ∧ (List.replicate 254 (0 : Byte)).length < (255 : Byte).toNat ∧ 6 < (7 : Byte).toNat
      ∧ (0x18 : Byte) ∉ assignedCommandKinds := by decide +kernel

theorem witness_SetConfigSetsOneItem :
    let s : State := station 0 .panel .halted
    s.Runs ∧ s.ctl.linkState = .halted ∧ table.ctl.linkState ≠ .halted ∧ (0 : Byte).toNat = 0 ∧ 52 < (53 : Byte).toNat
      ∧ (7 : Byte).toNat = 7 ∧ (toHalf 0 1).toNat = 1 ∧ (toHalf 0x07 0x3A).toNat = 1850 ∧ 1850 < (toHalf 0x07 0x3B).toNat
      ∧ (6 : Byte).toNat = 6 ∧ stationByte 3 = 3 ∧ (1 : Station) ≠ 2 ∧ (12 : Byte).toNat = 12 ∧ (36 : Byte).toNat = 36
      ∧ (3 : Byte).toNat ≤ 3 ∧ 2 < (3 : Byte).toNat ∧ targetByte .span = 4 ∧ (37 : Byte).toNat = 37 ∧ 4 ≤ (4 : Byte).toNat
      ∧ (63 : Byte).toNat ≤ 63 ∧ (3 : Byte).toNat < 4 ∧ 63 < (64 : Byte).toNat ∧ (40 : Byte).toNat = 40
      ∧ (7 : Byte).toNat ≤ 7 := by decide +kernel

/-- Bytes of every kind of item at the boundaries of their ranges. -/
theorem witness_SetConfigOfNumbers :
    let s : State := station 0 .panel .halted
    s.Runs ∧ s.ctl.linkState = .halted ∧ (1 : Byte).toNat = 1 ∧ (15 : Byte).toNat ≤ 15 ∧ 15 < (16 : Byte).toNat
      ∧ (48 : Byte).toNat = 48 ∧ (8 : Byte).toNat ≤ (8 : Byte).toNat ∧ (7 : Byte).toNat < 8 ∧ (255 : Byte).toNat ≤ 255
      ∧ (51 : Byte).toNat = 51 ∧ 20 ≤ (toHalf 0 20).toNat ∧ (toHalf 0 19).toNat < 20 ∧ (toHalf 1 144).toNat ≤ 400
      ∧ 400 < (toHalf 1 145).toNat ∧ (36 : Byte).toNat ≤ 36 ∧ (4 : Byte) = targetByte .span
      ∧ (toTarget 5).isNone = true ∧ 3 < (4 : Byte).toNat ∧ (6 : Byte).toNat = 6 ∧ (4 : Byte) ≠ 0xFF
      ∧ (∀ k : Station, (4 : Byte) ≠ stationByte k) ∧ (40 : Byte).toNat = 40 ∧ 7 < (8 : Byte).toNat := by decide +kernel

theorem witness_StartChecksThenListens :
    let s : State := station 0 .panel .halted
    (s.Runs ∧ s.ctl.linkState = .halted ∧ table.ctl.linkState ≠ .halted) ∧ s.StartCheck 1 ∧ s.StartCheck 2
      ∧ s.StartCheck 6 ∧ s.StartCheck 7 ∧ ¬ ({ s with port.cfg.b2 := 150 } : State).StartCheck 1
      ∧ ¬ (station 3 .panel .halted).StartCheck 2 ∧ startCheck s.ctl.straps s.port.cfg = none
      ∧ startCheck s.ctl.straps { s.port.cfg with limitHigh := 7 } = some 7 := by
  refine ⟨by decide +kernel, ?_, ?_, ?_, ?_, ?_, ?_, by decide +kernel, by decide +kernel⟩
  · exact (by decide : 150 < 700 ∧ 700 < 1500)
  · exact ⟨fun _ => rfl, fun _ => by decide⟩
  · exact (by decide : 8 + 2 ≤ 12)
  · exact (by decide : 8 ≤ 14)
  · exact (by decide : ¬ (150 < 150 ∧ 150 < 1500))
  · exact fun h => absurd (h.2 rfl) (by decide)

theorem witness_LeaveByLinkState :
    table.Runs ∧ (station 0 .panel .halted).ctl.linkState = .halted ∧ listener.ctl.linkState = .listen
      ∧ table.ctl.linkState.sends = true ∧ listener.counted = [] ∧ listener.port.notices.length < 16 := by decide +kernel

theorem witness_SurfaceCommandChecks :
    table.Runs ∧ listener.ctl.linkState ≠ .active ∧ sensor.ctl.linkState = .active ∧ sensor.ctl.straps.role = .sensor
      ∧ table.HoldsTables ∧ 16 < (17 : Byte).toNat ∧ (16 : Byte) = surfByte 15 ∧ (table.surface 15).state = .free
      ∧ (1 : Byte) = surfByte 0 ∧ (withMove.surface 0).state ≠ .free
      ∧ ({ table with ctl.straps.station := 1 } : State).HoldsTables
      ∧ (table.surface 0).owner ≠ some ({ table with ctl.straps.station := 1 } : State).own ∧ 24 ≤ (24 : Byte).toNat
      ∧ 32 ≤ (32 : Byte).toNat := by decide +kernel

/-- Bytes that give no region, at the edges of a panel grid. -/
theorem witness_RegionsRefused :
    Claim.GivesNoRegion 24 ⟨0, 0, 10, 10⟩ 3 0 0 1 1
      ∧ Claim.GivesNoRegion 24 ⟨0, 0, 10, 10⟩ 0 0 0 0 1
      ∧ Claim.GivesNoRegion 24 ⟨0, 0, 10, 10⟩ 0 24 0 1 1
      ∧ Claim.GivesNoRegion 24 ⟨0, 0, 10, 10⟩ 0 0 32 1 1 :=
  ⟨by decide +kernel, by decide +kernel, by decide +kernel, by decide +kernel⟩

theorem witness_RegionsRefused_bytes :
    Claim.GivesNoRegion 24 ⟨0, 0, 10, 10⟩ 0 0 0 1 64
      ∧ Claim.GivesNoRegion 24 ⟨0, 0, 10, 10⟩ 1 0 0 0xF6 0
      ∧ Claim.GivesNoRegion 24 ⟨0, 0, 10, 10⟩ 1 0xF6 0 0 0
      ∧ Claim.GivesNoRegion 24 ⟨0, 0, 10, 10⟩ 1 0xC0 0 0 0 :=
  ⟨by decide +kernel, by decide +kernel, by decide +kernel, by decide +kernel⟩

theorem witness_RegionsClipped :
    Claim.ClipsTo 24 ⟨0, 0, 10, 10⟩ 0 23 31 63 63 ⟨23, 31, 1, 1⟩ ∧ Claim.ClipsTo 24 ⟨0, 0, 10, 10⟩ 1 0xF7 0xF7 0 0 ⟨0, 0, 1, 1⟩
      := by decide +kernel

/-- A point between two groups of tests, as `Checkpoint1`. -/
structure Checkpoint9 where

theorem witness_RegionsOnGrid :
    ¬ Claim.ClipsTo 24 ⟨0, 0, 10, 10⟩ 0 0 0 24 32 ⟨0, 0, 24, 32⟩
      ∧ GivesRegion (gridCols (.panel 1)) ⟨0, 0, 10, 10⟩ 0 23 31 1 1 ⟨23, 31, 1, 1⟩ := by decide +kernel

theorem witness_ResizeWithoutRegionAndClipped :
    table.Runs ∧ table.HoldsTables ∧ table.Owns 0 ∧ (table.surface 0).region = some ⟨0, 0, 10, 10⟩
      ∧ refCols (table.surface 0) = 24 ∧ table.Admits .state ∧ table.port.cfg.strictClipped = false
      ∧ ({ table with port.cfg.strictClipped := true } : State).port.cfg.strictClipped = true := by decide +kernel

theorem witness_SurfaceCommandsSend_regions :
    GivesRegion (refCols (table.surface 0)) ⟨0, 0, 10, 10⟩ 0 0 0 24 32 ⟨0, 0, 24, 32⟩
      ∧ GivesRegion (refCols (table.surface 0)) ⟨0, 0, 10, 10⟩ 1 23 31 0xF7 0xF7 ⟨23, 31, 1, 1⟩ := by decide +kernel

theorem witness_SurfaceCommandsSend :
    let mid : State := { table with tables.lists := #v[[4, 0, 5], [], [], []] }
    let hidden : State := { table with tables.entries := table.tables.entries.set 0 { placed with visible := false } }
    let arriving : State := { table with tables.entries := table.tables.entries.set 0 { placed with arriving := some 1 } }
    table.Runs ∧ table.HoldsTables ∧ table.Owns 0 ∧ table.Admits .state ∧ (table.surface 0).lock = none
      ∧ hidden.Owns 0 ∧ hidden.Admits .state ∧ (hidden.surface 0).visible = false ∧ (table.surface 0).visible = true
      ∧ mid.Owns 0 ∧ mid.Admits .state ∧ (0 : Surf) ∈ mid.tables.lists[(0 : Station)]
      ∧ mid.tables.lists[(0 : Station)].head? ≠ some 0 ∧ mid.tables.lists[(0 : Station)].getLast? ≠ some 0
      ∧ (table.surface 0).region = some ⟨0, 0, 10, 10⟩
      ∧ BytesInGrid (refCols (table.surface 1)) 47 31 1 1 ∧ arriving.Owns 0 ∧ arriving.Admits .state
      ∧ (arriving.surface 0).arriving ≠ none ∧ BytesInGrid 24 23 31 1 1 ∧ (23 : Byte).toNat < 24 ∧ (31 : Byte).toNat < 32
      ∧ 24 < (23 : Byte).toNat + (2 : Byte).toNat ∧ 32 < (31 : Byte).toNat + (63 : Byte).toNat
      ∧ table.port.cfg.strictClipped = false
      ∧ ({ table with port.cfg.strictClipped := true } : State).port.cfg.strictClipped = true := by decide +kernel

theorem witness_SurfaceCommandsWithoutMessage :
    let hidden : State := { table with tables.entries := table.tables.entries.set 0 { placed with visible := false } }
    withMove.HoldsTables ∧ withMove.Owns 0 ∧ (withMove.surface 0).lock ≠ none ∧ table.Runs ∧ table.Owns 0
      ∧ (table.surface 0).arriving = none ∧ (table.surface 0).visible = true ∧ hidden.Owns 0
      ∧ (hidden.surface 0).visible = false
      ∧ (∀ j : Station, (0 : Surf) ∈ table.tables.lists[j] → table.tables.lists[j].head? = some 0)
      ∧ (∀ j : Station, (0 : Surf) ∈ table.tables.lists[j] → table.tables.lists[j].getLast? = some 0)
      ∧ table.port.cfg.strictNoChange = false
      ∧ ({ table with port.cfg.strictNoChange := true } : State).port.cfg.strictNoChange = true := by decide +kernel

theorem witness_MoveAndReturnPropose_regions :
    GivesRegion (gridCols .span) ⟨0, 0, 10, 10⟩ 0 47 31 1 1 ⟨47, 31, 1, 1⟩
      ∧ GivesRegion (gridCols .span) ⟨0, 0, 10, 10⟩ 1 47 0 0xF7 22 ⟨47, 0, 1, 32⟩
      ∧ GivesRegion (gridCols .span) ⟨0, 0, 10, 10⟩ 2 9 9 9 9 ⟨0, 0, 48, 32⟩ := by decide +kernel

theorem witness_MoveAndReturnPropose :
    let two : State := { table with txns.ownOpen := 2 }
    let one : State := { table with txns.ownOpen := 1 }
    one.Runs ∧ one.HoldsTables ∧ (one.surface 0).state ≠ .free ∧ (one.surface 0).lock = none
      ∧ targetConfigured one.port.cfg .span = true ∧ (one.surface 0).region = some ⟨0, 0, 10, 10⟩
      ∧ (one.surface 0).ret = none ∧ one.txns.ownOpen < 2 ∧ one.Admits .transaction ∧ 2 ≤ two.txns.ownOpen
      ∧ (one.surface 1).state = .parked ∧ (one.surface 1).lock = none ∧ (one.surface 1).ret ≠ none := by decide +kernel

/-- The checks of MOVE and RETURN one by one. -/
theorem witness_MoveAndReturnChecks :
    table.Runs ∧ listener.ctl.linkState ≠ .active ∧ sensor.ctl.linkState = .active ∧ sensor.ctl.straps.role = .sensor
      ∧ table.HoldsTables ∧ 16 < (17 : Byte).toNat ∧ (3 : Byte) = surfByte 2 ∧ (table.surface 2).state = .free
      ∧ (1 : Byte) = surfByte 0 ∧ (withMove.surface 0).state ≠ .free ∧ (withMove.surface 0).lock ≠ none
      ∧ (table.surface 0).lock = none ∧ targetConfigured table.port.cfg (.panel 3) = false
      ∧ (3 : Byte) = targetByte (.panel 3) ∧ (toTarget 5).isNone = true := by decide +kernel

/-- A surface with a return placement, as `witness_MoveSoftConditions` moves it, strict or not in each condition. -/
def returning (clipped replaced : Bool) : State :=
  { table with
    tables.entries := table.tables.entries.set 0 { placed with ret := some ⟨.panel 1, ⟨2, 2, 4, 4⟩⟩ }
    port.cfg.strictClipped := clipped, port.cfg.strictReturnReplaced := replaced }

theorem witness_MoveSoftConditions :
    ∀ s ∈ [returning false false, returning false true, returning true false, returning true true],
      s.Runs ∧ s.HoldsTables ∧ (s.surface 0).state = .placed ∧ (s.surface 0).lock = none
        ∧ targetConfigured s.port.cfg (.panel 1) = true ∧ (s.surface 0).region = some ⟨0, 0, 10, 10⟩
        ∧ s.txns.ownOpen < 2 ∧ s.Admits .transaction ∧ (s.surface 0).ret ≠ none := by decide +kernel

theorem witness_CancelAcceptDecline :
    let offered : State := { table with txns.offers := [offer], txns.table := [{ moving with id := offer.id }] }
    listener.Runs ∧ listener.ctl.linkState ≠ .active ∧ sensor.ctl.linkState = .active ∧ sensor.ctl.straps.role = .sensor
      ∧ withMove.Runs ∧ withMove.HoldsTables ∧ withMove.entry? ⟨withMove.own, 0⟩ ≠ none ∧ withMove.pool.transaction = []
      ∧ withMove.Admits .transaction ∧ (∀ c ∈ withMove.counted, c.1 ≠ ⟨withMove.own, 1⟩) ∧ (1 : Byte) ≠ stationByte table.own
      ∧ offered.HoldsTables ∧ (∃ o ∈ offered.txns.offers, o.id = offer.id ∧ o.state = .pending)
      ∧ offered.entry? offer.id ≠ none ∧ (∀ o ∈ table.txns.offers, o.id = offer.id → o.state ≠ .pending) := by
  decide +kernel

/-- An unsent PROPOSE of a MOVE behind a CANCEL, and one in the frame being sent. -/
theorem witness_CancelByProgress :
    let m : Msg := .proposeMove ⟨0, 0⟩ 0 ⟨.panel 1, ⟨0, 0, 1, 1⟩⟩ true
    let unsent : State := { table with pool.transaction := [.cancel ⟨0, 9⟩, m], txns.ownOpen := 1 }
    let sent : State := { table with link.sending := some ⟨header 0, [m], []⟩, txns.ownOpen := 1 }
    unsent.Runs ∧ unsent.HoldsTables ∧ unsent.own = 0 ∧ unsent.entry? ⟨unsent.own, 0⟩ = none
      ∧ unsent.pool.transaction = [.cancel ⟨0, 9⟩] ++ m :: [] ∧ sent.Runs ∧ sent.HoldsTables ∧ sent.own = 0
      ∧ (sent.link.sending.map (·.msgs)) = some [m] ∧ sent.pool.transaction = [] ∧ sent.Admits .transaction := by
  decide +kernel

theorem witness_RelayCommand :
    let full : State := { table with pool.state := List.replicate 20 (.destroy 0) }
    table.Runs ∧ 1 ≤ ([0] : List Byte).length ∧ (List.replicate 24 (0 : Byte)).length ≤ 24
      ∧ table.ctl.linkState.present = true ∧ (1 : Station) ≠ table.own ∧ table.peerActive 1 = true ∧ table.Admits .relay
      ∧ 3 < (4 : Byte).toNat ∧ listener.ctl.linkState.present = false ∧ (0 : Station) = table.own ∧ table.peerActive 3 = false
      ∧ 20 ≤ full.holdingShared ∧ full.pool.dropA = none
      ∧ ({ full with pool.dropA := some ⟨.relay, .poolFull, 0x40, none, 0⟩ } : State).pool.dropB = none := by
  decide +kernel

/-- Each class at its limit, with another class active and with none, and all three together at 20. -/
def crowded (n m : Nat) : State :=
  { table with
    pool.state := List.replicate n (.destroy 0), pool.transaction := List.replicate m (.cancel ⟨3, 0⟩)
    tables.lists := #v[[4, 0, 5], [], [], []] }

theorem witness_NoBuffer :
    (crowded 14 2).holdingShared < 20 ∧ (crowded 14 2).port.cfg.limitHigh ≤ (crowded 14 2).holding .state
      ∧ (crowded 14 2).holding .transaction < 3 ∧ (crowded 14 2).holding .relay < 3
      ∧ 3 ≤ (crowded 8 3).holding .transaction ∧ (crowded 8 3).port.cfg.limitLow ≤ (crowded 8 3).holding .state
      ∧ 20 ≤ (crowded 12 8).holdingShared ∧ (1 : Station) ≠ table.own ∧ (crowded 12 8).peerActive 1 = true
      ∧ (crowded 12 8).ctl.linkState.present = true := by decide +kernel

theorem witness_SurfaceNoBuffer :
    let s : State := crowded 12 8
    let hidden : State := { s with tables.entries := s.tables.entries.set 0 { placed with visible := false } }
    let arriving : State := { s with tables.entries := s.tables.entries.set 0 { placed with arriving := some 1 } }
    s.Runs ∧ s.HoldsTables ∧ s.Owns 0 ∧ (s.surface 0).lock = none ∧ (s.surface 0).visible = true ∧ hidden.Owns 0
      ∧ (hidden.surface 0).visible = false ∧ arriving.Owns 0 ∧ (arriving.surface 0).arriving ≠ none
      ∧ (0 : Surf) ∈ s.tables.lists[(0 : Station)] ∧ s.tables.lists[(0 : Station)].head? ≠ some 0
      ∧ s.tables.lists[(0 : Station)].getLast? ≠ some 0 ∧ (s.surface 0).region = some ⟨0, 0, 10, 10⟩
      ∧ refCols (s.surface 0) = 24 ∧ s.port.cfg.strictClipped = false ∧ BytesInGrid 24 0 0 24 32 := by decide +kernel

theorem witness_TransactionNoBuffer :
    let s : State := { crowded 12 8 with tables.entries := (returning false false).tables.entries }
    let open' : State := { withMove with pool.state := List.replicate 20 (.destroy 0) }
    let sent : State := { table with pool.state := List.replicate 20 (.destroy 0), link.sending := some ⟨header 0, [.proposeReturn ⟨0, 0⟩ 0], []⟩ }
    s.Runs ∧ s.HoldsTables ∧ (s.surface 0).state = .placed ∧ (s.surface 0).lock = none ∧ (s.surface 0).ret ≠ none
      ∧ s.txns.ownOpen < 2 ∧ targetConfigured s.port.cfg (.panel 1) = true ∧ (s.surface 0).region = some ⟨0, 0, 10, 10⟩
      ∧ gridCols (.panel 1) = 24 ∧ s.port.cfg.strictClipped = false ∧ s.port.cfg.strictReturnReplaced = false
      ∧ open'.HoldsTables ∧ 20 ≤ open'.holdingShared ∧ open'.entry? ⟨open'.own, 0⟩ ≠ none
      ∧ open'.pool.transaction = [] ∧ sent.HoldsTables ∧ 20 ≤ sent.holdingShared ∧ sent.pool.transaction = []
      ∧ (sent.link.sending.map (·.msgs)) = some [.proposeReturn ⟨sent.own, 0⟩ 0] := by decide +kernel

theorem witness_BlankAndWake :
    let none' : State := { withMove with port.cfg.blankIdleLimit := 0 }
    let in' (p : PanelState) : State := { table with panel.state := p }
    table.Runs ∧ sensor.ctl.straps.role = .sensor ∧ table.ctl.straps.role = .panel ∧ table.panel.state = .lit
      ∧ table.panelIdle = true ∧ withMove.panel.state = .lit ∧ withMove.panelIdle = false
      ∧ withMove.port.cfg.blankIdleLimit ≠ 0 ∧ none'.panelIdle = false ∧ none'.port.cfg.blankIdleLimit = 0
      ∧ (in' .blankPending).panel.state = .blankPending ∧ (in' .dark).panel.state = .dark
      ∧ (in' .waking).panel.state = .waking := by decide +kernel

/-- A point between two groups of tests, as `Checkpoint1`. -/
structure Checkpoint10 where

theorem witness_ClearAdjustClears :
    table.Runs ∧ table.isStrict .clipped = false ∧ table.isStrict .noChange = false
      ∧ table.isStrict .returnReplaced = false := by decide +kernel

theorem witness_LinkLogReadAndClear : table.Runs ∧ (.length = LinkError.length) ∧ (.syncLost = LinkError.syncLost) := by
  decide +kernel

theorem witness_DropLogReadEmpties : table.Runs ∧ sensor.Runs := ⟨rfl, rfl⟩

theorem witness_NoticesAndStatus :
    let full (n : Nat) : State := { table with port.notices := List.replicate n note }
    table.Runs ∧ (full 15).port.notices.length < 16 ∧ 16 ≤ (full 16).port.notices.length ∧ (full 1).port.notices = [note]
      ∧ table.port.notices = [] ∧ sensor.ctl.straps.role = .sensor
      ∧ ({ table with port.lastAccess := some ⟨some 3, none, some 0, .complete⟩ } : State).port.lastAccess
          = some ⟨some 3, none, some 0, .complete⟩ := by decide +kernel

theorem witness_ReadEntryReturnsCopy :
    table.Runs ∧ sensor.ctl.straps.role = .sensor ∧ table.ctl.straps.role = .panel ∧ (0 : Byte).toNat = 0
      ∧ 16 < (17 : Byte).toNat ∧ (16 : Byte).toNat = (15 : Surf).val + 1 ∧ (1 : Byte).toNat = (0 : Surf).val + 1 := by
  decide +kernel

/-- The premises of the invariants: a state that has each of them, and takes a step. -/
theorem witness_Invariants :
    (table.NoticesFit ∧ table.SharedFit ∧ table.LockedOnLink ∧ table.PaceIsLowest ∧ table.DegradedAtThree
      ∧ table.FreezeFlagMeans) ∧ table.ConfigFits ∧ ∃ t, step { table with pending := [.latch] } = .next t :=
  ⟨by decide +kernel, default_inRange, _, rfl⟩

end Sys2Proof.Tests
end

section
/-! O38 and O39: the arrival countdown, ARRIVAL_TIMEOUT, and the two moves of the re-home pass (R114 to R125). Each fold
of the pass over surfaces or targets is shown to do its one piece of work, or none; the moves themselves are brought into
one form, tables written and a list of notices given. -/

namespace Sys2Proof.Rehoming

open Sys2Proof Sys2Proof.Machine

/-! ### Folds that do nothing, or one thing -/

theorem foldl_eq_self {α β : Type} {f : β → α → β} {b : β} {l : List α} (h : ∀ a ∈ l, f b a = b) : l.foldl f b = b :=
  List.foldlRecOn l f (motive := (· = b)) rfl fun _ hc a ha => hc ▸ h a ha

/-- A fold that acts at one element only. -/
theorem foldl_eq_once {α β : Type} {f : β → α → β} {b : β} {a : α} {l : List α} (ha : a ∈ l)
    (hother : ∀ x, x ≠ a → f b x = b) (hafter : ∀ x, f (f b a) x = f b a) : l.foldl f b = f b a := by
  induction l with
  | nil => cases ha
  | cons x l ih =>
    rw [List.foldl_cons]
    by_cases hx : x = a
    · rw [hx]
      exact foldl_eq_self fun y _ => hafter y
    · rw [hother x hx]
      exact ih ((List.mem_cons.mp ha).resolve_left (Ne.symm hx))

theorem mem_surfs (sf : Surf) : sf ∈ surfs := by
  revert sf; decide

theorem mem_stations (k : Station) : k ∈ stations := by
  revert k; decide

theorem mem_passTargets {cfg : ConfigItems} {k : Station} (h : memSet cfg.panelSet k = true) :
    .panel k ∈ passTargets cfg :=
  List.mem_filter.mpr ⟨List.mem_append_left _ (List.mem_map_of_mem (mem_stations k)), h⟩

/-! ### Notices -/

/-- Notices added one after another. -/
def notifyAll (s : State) (ns : List Notice) : State := ns.foldl (fun s n => s.notify n) s

theorem notifyAll_eq (s : State) (ns : List Notice) :
    ∃ q o, notifyAll s ns = { s with port := { s.port with notices := q, overrun := o } } := s.notifyAll_eq id ns

@[simp] theorem notifyAll_ctl (s : State) (ns : List Notice) : (notifyAll s ns).ctl = s.ctl := by
  obtain ⟨q, o, h⟩ := notifyAll_eq s ns
  rw [h]

@[simp] theorem notifyAll_angle (s : State) (ns : List Notice) : (notifyAll s ns).angle = s.angle := by
  obtain ⟨q, o, h⟩ := notifyAll_eq s ns
  rw [h]

@[simp] theorem notifyAll_tables (s : State) (ns : List Notice) : (notifyAll s ns).tables = s.tables := by
  obtain ⟨q, o, h⟩ := notifyAll_eq s ns
  rw [h]

@[simp] theorem notifyAll_cfg (s : State) (ns : List Notice) : (notifyAll s ns).port.cfg = s.port.cfg := by
  obtain ⟨q, o, h⟩ := notifyAll_eq s ns
  rw [h]

/-- Where the queue has room for all of them, the notices stand at its back in order (R186). -/
theorem notifyAll_port {s : State} {ns : List Notice} (h : s.port.notices.length + ns.length ≤ 16) :
    (notifyAll s ns).port = { s.port with notices := s.port.notices ++ ns } := by
  induction ns generalizing s with
  | nil => simp [notifyAll]
  | cons n ns ih =>
    rw [List.length_cons] at h
    have hn : s.notify n = { s with port := { s.port with notices := s.port.notices ++ [n] } } := if_pos (by omega)
    rw [notifyAll, List.foldl_cons, hn]
    refine (ih ?_).trans ?_
    · simp only [List.length_append, List.length_singleton]
      omega
    · simp

theorem notifyAt_eq (s : State) (k : Station) (n : Notice) :
    s.notifyAt (some k) n = notifyAll s (if k = s.own then [n] else []) := by
  by_cases h : k = s.own <;> simp [State.notifyAt, notifyAll, h]

theorem notifyAll_append (s : State) (ns ms : List Notice) :
    notifyAll s (ns ++ ms) = notifyAll (notifyAll s ns) ms := List.foldl_append

/-- The notices at the own station of a re-home move from an owner to another, of a surface that was not arriving: it
arrives where the render group changes (R119, R123). -/
def movedNotices (cfg : ConfigItems) (own before after : Station) (sf : Surf) (tag : Half) (p : Placement)
    (c : SurfaceCause) : List Notice :=
  (if before ≠ after ∧ before = own then [.surfaceLost sf tag p before c] else [])
    ++ (if after = own then
        .surfaceGained sf tag p after c ::
          (if cfg.group before = cfg.group after then [] else [.surfaceArriving sf tag p cfg.arrivalLimit])
      else [])

/-- A move that changes the owner, and a restore of a PARKED surface, give the notices of R123. -/
theorem moveNotices_eq (s : State) {o k : Station} {e e' : Entry} (sf : Surf) (p : Placement) (c : SurfaceCause)
    (ho : e.owner = some o) (hk : e'.owner = some k) (h : o ≠ k ∨ e.state = .parked)
    (ha : e'.arriving
      = if s.port.cfg.group o = s.port.cfg.group k then none else some s.port.cfg.arrivalLimit) :
    s.moveNotices sf e e' p c = notifyAll s (movedNotices s.port.cfg s.own o k sf e'.appTag p c) := by
  have hown : ∀ ns, (notifyAll s ns).own = s.own := fun ns => by rw [State.own, notifyAll_ctl, State.own]
  unfold State.moveNotices movedNotices
  simp only [ho, hk, ha, notifyAt_eq, Option.getD_some, ne_eq, Option.some.injEq]
  by_cases hok : o = k
  · have hp : e.state = .parked := h.resolve_left (not_not_intro hok)
    simp [hok, hp]
  · by_cases hg : s.port.cfg.group o = s.port.cfg.group k
    · simp [hok, hg, hown, ← notifyAll_append]
    · simp only [hok, hg, not_false_eq_true, if_true, if_false, true_and, hown, ← notifyAll_append, List.append_assoc]
      congr 2
      split <;> rfl

/-! ### Usable targets (R114) -/

theorem ruleOf_congr {s t : State} (ha : t.angle = s.angle) (hcfg : t.port.cfg = s.port.cfg) (g : Target) :
    t.ruleOf g = s.ruleOf g := by rw [State.ruleOf, State.ruleOf, ha, hcfg]

theorem usable_congr {s t : State} (hc : t.ctl = s.ctl) (ha : t.angle = s.angle) (hcfg : t.port.cfg = s.port.cfg)
    (g : Target) : t.usable g = s.usable g := by
  have hp : ∀ k, t.panelUsable k = s.panelUsable k := fun k => by
    rw [State.panelUsable, State.panelUsable, hc, ruleOf_congr ha hcfg]
  cases g with
  | panel k => exact hp k
  | span => simp only [State.usable, hp, hcfg, ruleOf_congr ha hcfg]

/-! ### The steps of the pass -/

/-- The state in which the work of a cycle close begins. -/
def closing (s : State) : State := { s with link := { s.link with timer := cycleCloseTime } }

theorem passRuns_iff (s : State) : s.passRuns = true ↔ s.HoldsTables ∧ s.div.freezeFlag = false := by
  simp only [State.passRuns, State.activePanel, State.isPanel, Bool.and_eq_true, beq_iff_eq, Bool.not_eq_true',
    State.HoldsTables, and_comm (a := s.ctl.straps.role = Role.panel)]

/-- CYCLE_CLOSE of a table holder outside a freeze and outside a request cycle. -/
theorem cycleClose_eq {s : State} (hr : s.Runs) (hh : s.HoldsTables) (hf : s.div.freezeFlag = false)
    (hq : s.div.requestCycle = false) :
    exec .cycleClose s = .next (closing s).countArrivals.evacuate.restore.beginRead := by
  have ha : (closing s).abandon = closing s := if_neg (by rw [closing, hq]; exact Bool.false_ne_true)
  have hp : (closing s).rehomePass = (closing s).countArrivals.evacuate.restore :=
    if_pos ((passRuns_iff (closing s)).mpr ⟨hh, hf⟩)
  rw [← hp, ← ha]
  exact whenRunning_runs hr _

/-- An unlocked surface has no transaction to lose (R117). -/
theorem unlockRehomed_eq_self {s : State} {sf : Surf} (h : (s.surface sf).lock = none) : s.unlockRehomed sf = s := by
  have hn : s.lockingEntry? sf = none := List.find?_eq_none.mpr fun t _ => by simp [h]
  rw [State.unlockRehomed, hn]

theorem countSurface_eq_self {s : State} {sf : Surf} (h : (s.surface sf).arriving = none) : s.countSurface sf = s := by
  rw [State.countSurface, h]

theorem countArrivals_eq_self {s : State} (h : ∀ sf, (s.surface sf).arriving = none) : s.countArrivals = s :=
  foldl_eq_self fun sf _ => countSurface_eq_self (h sf)

/-- A target is passed over where it is usable or has no PLACED surface (R116). -/
theorem evacuateTarget_eq_self {s : State} {t : Target}
    (h : ∀ sf, (s.surface sf).state = .placed → (s.surface sf).target = some t → s.usable t = true) :
    s.evacuateTarget t = s := by
  by_cases hu : s.usable t = true
  · exact if_pos hu
  · have hn : s.surfacesOn t = [] := List.filter_eq_nil_iff.mpr fun sf _ hs => by
      rw [Bool.and_eq_true, beq_iff_eq, beq_iff_eq] at hs
      exact hu (h sf hs.1 hs.2)
    rw [State.evacuateTarget, if_neg hu, hn, List.foldl_nil]

theorem evacuate_eq_self {s : State}
    (h : ∀ t, targetConfigured s.port.cfg t = true → ∀ sf, (s.surface sf).state = .placed →
      (s.surface sf).target = some t → s.usable t = true) : s.evacuate = s :=
  foldl_eq_self fun t ht => evacuateTarget_eq_self (h t (List.mem_filter.mp ht).2)

/-- A surface is out of scope of the restore part where one of the conditions of R121 fails. -/
theorem restorable_eq_none {s : State} {sf : Surf}
    (h : ∀ p, (s.surface sf).implicit = true → (s.surface sf).ret = some p → (s.surface sf).lock = none →
      s.usable p.target = true → (s.ruleOf p.target).restore = false) : s.restorable sf = none := by
  unfold State.restorable
  dsimp only
  split
  · next p hp =>
    refine if_neg fun hs => ?_
    simp only [Bool.and_eq_true, Option.isNone_iff_eq_none] at hs
    obtain ⟨⟨⟨hi, hl⟩, hu⟩, hr⟩ := hs
    exact absurd hr (by simp [h p hi hp hl hu])
  · rfl

theorem restoreSurface_eq_self {s : State} {sf : Surf} (h : s.restorable sf = none) : s.restoreSurface sf = s := by
  rw [State.restoreSurface, h]

theorem restore_eq_self {s : State} (h : ∀ sf, s.restorable sf = none) : s.restore = s :=
  foldl_eq_self fun sf _ => restoreSurface_eq_self (h sf)

/-! ### O38: the countdown -/

/-- The entry after one count (R124). -/
def countedEntry (e : Entry) : Entry := { e with arriving := e.arriving.map (· - 1) }

theorem setSurface_self (s : State) (sf : Surf) : s.setSurface sf (s.surface sf) = s := by
  simp [State.setSurface, Tables.setEntry, State.surface, Tables.entry]

theorem countSurface_eq {s : State} {sf : Surf} (h : ∀ n, (s.surface sf).arriving = some n → 2 ≤ n) :
    s.countSurface sf = s.setSurface sf (countedEntry (s.surface sf)) := by
  unfold State.countSurface
  split
  · next n hn =>
    have h2 := h n hn
    rw [if_neg (by omega), countedEntry, hn, Option.map_some]
  · next hn =>
    have hc : countedEntry (s.surface sf) = s.surface sf := by rw [countedEntry, hn, Option.map_none, ← hn]
    rw [hc, setSurface_self]

/-- The countdown over some surfaces, no count of which runs out. -/
theorem foldl_countSurface {l : List Surf} (hl : l.Nodup) {s : State}
    (h : ∀ sf ∈ l, ∀ n, (s.surface sf).arriving = some n → 2 ≤ n) :
    ∃ es, l.foldl (fun s sf => s.countSurface sf) s = { s with tables := ⟨es, s.tables.lists⟩ }
      ∧ ∀ sf : Surf, es[sf] = if sf ∈ l then countedEntry (s.surface sf) else s.surface sf := by
  induction l generalizing s with
  | nil => exact ⟨s.tables.entries, rfl, fun _ => rfl⟩
  | cons a l ih =>
    obtain ⟨ha, hl⟩ := List.nodup_cons.mp hl
    have hother : ∀ sf, sf ≠ a → (s.setSurface a (countedEntry (s.surface a))).surface sf = s.surface sf :=
      fun sf hsf => Tables.setEntry_other s.tables _ (Ne.symm hsf)
    obtain ⟨es, hes, hall⟩ := ih hl (s := s.setSurface a (countedEntry (s.surface a))) fun sf hsf n hn =>
      h sf (List.mem_cons_of_mem a hsf) n (by rwa [hother sf fun heq => ha (heq ▸ hsf)] at hn)
    refine ⟨es, ?_, fun sf => ?_⟩
    · rw [List.foldl_cons, countSurface_eq (h a List.mem_cons_self), hes]
      rfl
    · rw [hall sf]
      by_cases hsf : sf = a
      · rw [hsf, if_neg ha, if_pos List.mem_cons_self, State.setSurface_same]
      · simp only [List.mem_cons, hsf, false_or, hother sf hsf]

theorem countArrivals_eq {s : State} (h : ∀ sf n, (s.surface sf).arriving = some n → 2 ≤ n) :
    ∃ es, s.countArrivals = { s with tables := ⟨es, s.tables.lists⟩ }
      ∧ ∀ sf : Surf, es[sf] = countedEntry (s.surface sf) := by
  obtain ⟨es, hes, hall⟩ := foldl_countSurface (l := surfs) (by decide) fun sf _ => h sf
  exact ⟨es, hes, fun sf => (hall sf).trans (if_pos (mem_surfs sf))⟩

/-- R124: the countdown writes the entries, and neither other part of the pass finds work. -/
theorem arrivalCountdown : Claim.ArrivalCountdown := by
  intro s hr hh hf hq husable hscope hcount
  obtain ⟨es, hes, hsurf⟩ := countArrivals_eq (s := closing s) hcount
  have hclose := cycleClose_eq hr hh hf hq
  rw [hes] at hclose
  have hu : ∀ g, State.usable { closing s with tables := ⟨es, s.tables.lists⟩ } g = s.usable g :=
    usable_congr rfl rfl rfl
  have hevac : State.evacuate { closing s with tables := ⟨es, s.tables.lists⟩ } = _ :=
    evacuate_eq_self fun t ht _ _ _ => (hu t).trans (husable t ht)
  have hrest : State.restore { closing s with tables := ⟨es, s.tables.lists⟩ } = _ :=
    restore_eq_self fun sf => restorable_eq_none fun p hi hp hl hus => by
      rw [State.surface, Tables.entry, hsurf sf] at hi hp hl
      exact hscope sf p hi hp hl ((hu p.target).symm.trans hus)
  refine ⟨_, hclose, ?_⟩
  rw [show (closing s).tables.lists = s.tables.lists from rfl, hevac, hrest]
  exact ⟨rfl, hsurf, rfl, rfl, rfl, rfl, rfl, rfl⟩

/-! ### O38: the timeout -/

theorem removeAll_lists (t : Tables) (sf : Surf) :
    ∀ j : Station, (t.removeAll sf).lists[j] = t.lists[j].filter (· != sf)
  | 0 | 1 | 2 | 3 => rfl

/-- The timeout of an unlocked surface (R125). -/
theorem timeoutSurface_eq {s : State} {sf : Surf} (h : (s.surface sf).lock = none) :
    s.timeoutSurface sf = s.parkSurface sf (s.surface sf) .arrivalTimeout := by
  rw [State.timeoutSurface, unlockRehomed_eq_self h]

theorem parkSurface_tables (s : State) (sf : Surf) (e : Entry) (c : SurfaceCause) :
    (s.parkSurface sf e c).tables = s.tables.park sf e := by
  unfold State.parkSurface State.notifyAt
  split
  · exact State.notify_tables _ _
  · rfl

/-- After a park the surface arrives no more, and every other surface is as it was. -/
theorem parkSurface_arriving {s : State} {sf : Surf} (e : Entry) (c : SurfaceCause) {n : Nat}
    (h : ∀ sg, sg ≠ sf → (s.surface sg).arriving ≠ some n) (sg : Surf) :
    ((s.parkSurface sf e c).surface sg).arriving ≠ some n := by
  rw [State.surface, parkSurface_tables]
  by_cases hsg : sg = sf
  · rw [hsg, Tables.park, Tables.setEntry_same]
    exact nofun
  · rw [Tables.park, Tables.setEntry_other _ _ (Ne.symm hsg)]
    exact h sg hsg

theorem timeoutArrivals_eq_self {s : State} (h : ∀ sf, (s.surface sf).arriving ≠ some 0) : s.timeoutArrivals = s :=
  foldl_eq_self fun sf _ => if_neg (h sf)

theorem timeoutArrivals_eq {s : State} {sf : Surf} (ha : (s.surface sf).arriving = some 0)
    (hl : (s.surface sf).lock = none) (h : ∀ sg, sg ≠ sf → (s.surface sg).arriving ≠ some 0) :
    s.timeoutArrivals = s.parkSurface sf (s.surface sf) .arrivalTimeout := by
  refine (foldl_eq_once (mem_surfs sf) (fun sg hsg => if_neg (h sg hsg)) fun sg => ?_).trans ?_
  · rw [if_pos ha, timeoutSurface_eq hl, if_neg (parkSurface_arriving _ _ h sg)]
  · rw [if_pos ha, timeoutSurface_eq hl]

/-- R125: the one surface whose count is 0 is parked, and its park leaves no other. -/
theorem arrivalTimeoutParks : Claim.ArrivalTimeoutParks := by
  intro sf s hr
  have hexec : exec .arrivalTimeout s = .next (if s.passRuns then s.timeoutArrivals else s) := whenRunning_runs hr _
  refine ⟨fun hh hf ha hl h => ?_, fun h => ?_⟩
  · refine ⟨s.tables.park sf (s.surface sf), ?_, rfl, removeAll_lists s.tables sf⟩
    rw [hexec, if_pos ((passRuns_iff s).mpr ⟨hh, hf⟩), timeoutArrivals_eq ha hl h]
    rfl
  · rw [hexec]
    split
    · next hp =>
      obtain ⟨hh, hf⟩ := (passRuns_iff s).mp hp
      rcases h with h | h | h
      · exact absurd hh h
      · exact absurd hf (by simp [h])
      · rw [timeoutArrivals_eq_self h]
    · rfl

/-- Settles O38: the countdown writes one entry after another, and the timeout is the one park of its fold. -/
theorem arrivalsCountedAndTimedOut : Obligations.ArrivalsCountedAndTimedOut := ⟨arrivalCountdown, arrivalTimeoutParks⟩

/-! ### O39: lists of one surface -/

/-- One surface stands in one list, and the other lists are empty. -/
abbrev oneList (k : Station) (sf : Surf) : Vector (List Surf) 4 := (#v[[], [], [], []] : Vector (List Surf) 4).set k [sf]

theorem emptyLists_get : ∀ j : Station, (#v[[], [], [], []] : Vector (List Surf) 4)[j] = []
  | 0 | 1 | 2 | 3 => rfl

theorem oneList_same (k : Station) (sf : Surf) : (oneList k sf)[k] = [sf] := Vector.getElem_set_self _

theorem oneList_other {j k : Station} (sf : Surf) (h : j ≠ k) : (oneList k sf)[j] = [] :=
  (Vector.getElem_set_ne _ _ fun heq => h (Fin.ext heq.symm)).trans (emptyLists_get j)

theorem removeAll_oneList {t : Tables} {k : Station} {sf : Surf} (h : t.lists = oneList k sf) :
    (t.removeAll sf).lists = #v[[], [], [], []] := by
  have hget : ∀ j : Station, (t.removeAll sf).lists[j] = [] := fun j => by
    rw [removeAll_lists, h]
    by_cases hj : j = k
    · rw [hj, oneList_same, List.filter_cons, bne_self_eq_false, if_neg Bool.false_ne_true, List.filter_nil]
    · rw [oneList_other sf hj, List.filter_nil]
  exact Vector.ext fun i hi => (hget ⟨i, hi⟩).trans (emptyLists_get ⟨i, hi⟩).symm

theorem removeAll_empty {t : Tables} (sf : Surf) (h : t.lists = #v[[], [], [], []]) :
    (t.removeAll sf).lists = #v[[], [], [], []] := by
  simp [Tables.removeAll, h]

theorem appendBack_lists {t : Tables} (sf : Surf) (j : Station) (h : t.lists = #v[[], [], [], []]) :
    (t.appendBack sf j).lists = oneList j sf := by
  rw [Tables.appendBack, h, emptyLists_get, List.nil_append]

theorem insertFront_lists {t : Tables} (sf : Surf) (j : Station) (h : t.lists = #v[[], [], [], []]) :
    (t.insertFront sf j).lists = oneList j sf := by
  rw [Tables.insertFront, h, emptyLists_get]

/-- An empty list with no reservation has room (R9, R10). -/
theorem roomFor_emptyList {s : State} {j : Station} (sf : Surf) (ht : s.txns.table = []) (hl : s.tables.lists[j] = []) :
    s.roomFor sf (.panel j) = true := by
  have hfree : s.hasFree j = true := by
    rw [State.hasFree, hl, ht]
    rfl
  exact List.all_eq_true.mpr fun k hk => List.mem_singleton.mp (List.mem_filter.mp hk).1 ▸ hfree

/-! ### O39: the one form of a move or a park -/

/-- The stacking lists are written, and one entry with them, and notices are given. -/
def written (s : State) (lists : Vector (List Surf) 4) (sf : Surf) (e : Entry) (ns : List Notice) : State :=
  notifyAll { s with tables := ⟨s.tables.entries.set sf e, lists⟩ } ns

section
variable (s : State) (lists : Vector (List Surf) 4) {sf sg : Surf} (e : Entry) (ns : List Notice)

theorem written_surface_same : (written s lists sf e ns).surface sf = e := by
  rw [written, State.surface, notifyAll_tables]
  exact Tables.setEntry_same s.tables sf e

theorem written_surface_other (h : sg ≠ sf) : (written s lists sf e ns).surface sg = s.surface sg := by
  rw [written, State.surface, notifyAll_tables]
  exact Tables.setEntry_other s.tables e h.symm

theorem written_usable (g : Target) : (written s lists sf e ns).usable g = s.usable g :=
  usable_congr (notifyAll_ctl _ _) (notifyAll_angle _ _) (notifyAll_cfg _ _) g

end

/-- Every surface but one is FREE. -/
def Alone (s : State) (sf : Surf) : Prop := ∀ sg, sg ≠ sf → s.surface sg = Entry.free

section
variable {s : State} {sf sg : Surf}

theorem Alone.eq_of_placed (h : Alone s sf) (hp : (s.surface sg).state = .placed) : sg = sf := by
  refine Decidable.byContradiction fun hsg => ?_
  rw [h sg hsg] at hp
  exact nomatch hp

theorem Alone.eq_of_ret (h : Alone s sf) {p : Placement} (hp : (s.surface sg).ret = some p) : sg = sf := by
  refine Decidable.byContradiction fun hsg => ?_
  rw [h sg hsg] at hp
  exact nomatch hp

theorem Alone.written (h : Alone s sf) (lists : Vector (List Surf) 4) (e : Entry) (ns : List Notice) :
    Alone (written s lists sf e ns) sf := fun sg hsg => (written_surface_other s lists e ns hsg).trans (h sg hsg)

/-- A table of one surface that is not arriving has nothing to count. -/
theorem Alone.countArrivals_eq (h : Alone s sf) (ha : (s.surface sf).arriving = none) : s.countArrivals = s :=
  countArrivals_eq_self fun sg => by
    by_cases hsg : sg = sf
    · rw [hsg, ha]
    · rw [h sg hsg]
      rfl

end

/-- What a cycle close with one move or park answers, where it began with that surface alone in the table. -/
theorem cycleClose_written {s : State} {lists : Vector (List Surf) 4} {sf : Surf} {e : Entry} {ns : List Notice}
    (hr : s.Runs) (hh : s.HoldsTables) (hf : s.div.freezeFlag = false) (hq : s.div.requestCycle = false)
    (halone : Alone (closing s) sf)
    (hpass : (closing s).countArrivals.evacuate.restore = written (closing s) lists sf e ns) :
    ∃ u, exec .cycleClose s = .next u ∧ u.surface sf = e ∧ u.tables.lists = lists
      ∧ (∀ sg, sg ≠ sf → u.surface sg = Entry.free)
      ∧ (s.port.notices.length + ns.length ≤ 16 → u.port = { s.port with notices := s.port.notices ++ ns }) := by
  refine ⟨(written (closing s) lists sf e ns).beginRead, ?_, written_surface_same .., ?_, halone.written lists e ns,
    fun hroom => notifyAll_port hroom⟩
  · rw [cycleClose_eq hr hh hf hq, hpass]
  · rw [State.beginRead_tables, written, notifyAll_tables]

/-- The arriving field after a move of a surface that was not arriving (R119). -/
theorem arrivingAfter_eq (cfg : ConfigItems) {e : Entry} {o : Station} (k : Station) (ho : e.owner = some o)
    (ha : e.arriving = none) :
    arrivingAfter cfg e (some k) = if cfg.group o = cfg.group k then none else some cfg.arrivalLimit := by
  simp [arrivingAfter, ho, ha]

/-! ### O39: evacuation -/

/-- One surface is alone in the table, placed unlocked on an unusable panel by its owner. -/
structure Stranded (s : State) (sf : Surf) (k : Station) (r : Region) : Prop where
  noTxns : s.txns.table = []
  configured : memSet s.port.cfg.panelSet k = true
  placed : (s.surface sf).state = .placed
  target : (s.surface sf).target = some (.panel k)
  region : (s.surface sf).region = some r
  owner : (s.surface sf).owner = some k
  unlocked : (s.surface sf).lock = none
  explicit : (s.surface sf).implicit = false
  notArriving : (s.surface sf).arriving = none
  alone : Alone s sf
  lists : s.tables.lists = oneList k sf
  unusable : s.usable (.panel k) = false

section
variable {s : State} {sf : Surf} {k : Station} {r : Region}

/-- The implicit placement of a stranded surface is the placement it had (step 3 of R118). -/
theorem Stranded.implicitReturn_eq (h : Stranded s sf k r) :
    implicitReturn (s.surface sf) = some ⟨.panel k, r⟩ := by
  simp [implicitReturn, h.explicit, h.target, h.region]

theorem Stranded.surfacesOn_eq (h : Stranded s sf k r) : s.surfacesOn (.panel k) = [sf] := by
  have hl : s.orderList (.panel k) = [sf] := by
    rw [State.orderList, h.lists, oneList_same]
  simp [State.surfacesOn, hl, h.placed, h.target]

/-- The pass over a stranded surface is its evacuation, where that leaves it on a usable target or on none, and keeps its
old placement as return placement: nothing is in scope of the restore part, since that panel is unusable (R116, R121). -/
theorem Stranded.pass_eq (h : Stranded s sf k r) {lists : Vector (List Surf) 4} {e : Entry} {ns : List Notice}
    (hstep : s.evacuateSurface (.panel k) sf = written s lists sf e ns)
    (husable : ∀ t, e.target = some t → s.usable t = true) (hret : e.ret = some ⟨.panel k, r⟩) :
    s.countArrivals.evacuate.restore = written s lists sf e ns := by
  have halone : Alone (written s lists sf e ns) sf := h.alone.written lists e ns
  have htarget : s.evacuateTarget (.panel k) = written s lists sf e ns := by
    rw [State.evacuateTarget, h.unusable, h.surfacesOn_eq, ← hstep]
    rfl
  have hevac : s.evacuate = written s lists sf e ns := by
    refine (foldl_eq_once (mem_passTargets h.configured) (fun t ht => ?_) fun t => ?_).trans htarget
    · refine evacuateTarget_eq_self fun sg hp hsg => absurd ?_ ht
      rw [h.alone.eq_of_placed hp, h.target] at hsg
      exact (Option.some.inj hsg).symm
    · rw [htarget]
      refine evacuateTarget_eq_self fun sg hp hsg => ?_
      rw [halone.eq_of_placed hp, written_surface_same] at hsg
      rw [written_usable, husable t hsg]
  rw [h.alone.countArrivals_eq h.notArriving, hevac]
  refine restore_eq_self fun sg => restorable_eq_none fun p _ hp _ hu => ?_
  rw [halone.eq_of_ret hp, written_surface_same, hret, Option.some.injEq] at hp
  rw [written_usable, ← hp, h.unusable] at hu
  exact nomatch hu

/-- The entry of a stranded surface after its move to another panel (R118, R119). -/
theorem Stranded.evacuatedEntry_eq (h : Stranded s sf k r) (j : Station) :
    evacuatedEntry s.port.cfg (s.surface sf) (.panel j) = { s.surface sf with
      target := some (.panel j), region := some ⟨0, 0, 24, 32⟩, owner := some j, implicit := true
      ret := some ⟨.panel k, r⟩
      arriving := if s.port.cfg.group k = s.port.cfg.group j then none else some s.port.cfg.arrivalLimit } := by
  rw [← arrivingAfter_eq s.port.cfg j h.owner h.notArriving, ← h.implicitReturn_eq]
  rfl

/-- The pass moves a stranded surface to its one fallback, where that is usable (R117, R118). -/
theorem Stranded.pass_moves (h : Stranded s sf k r) {j : Station} (hj : j ≠ k) (hu : s.usable (.panel j) = true)
    (hf : (s.ruleOf (.panel k)).fallbacks = [.panel j]) :
    s.countArrivals.evacuate.restore
      = written s (oneList j sf) sf (evacuatedEntry s.port.cfg (s.surface sf) (.panel j))
          (movedNotices s.port.cfg s.own k j sf (s.surface sf).appTag ⟨.panel j, ⟨0, 0, 24, 32⟩⟩ .evacuated) := by
  have hroom : s.roomFor sf (.panel j) = true :=
    roomFor_emptyList sf h.noTxns (by rw [h.lists]; exact oneList_other sf hj)
  have hstep : s.evacuateSurface (.panel k) sf = s.evacuateTo sf (.panel j) := by
    simp [State.evacuateSurface, unlockRehomed_eq_self h.unlocked, hf, hu, hroom]
  have hlists : ((s.tables.removeAll sf).appendBack sf j).lists = oneList j sf :=
    appendBack_lists sf j (removeAll_oneList h.lists)
  refine h.pass_eq (hstep.trans ?_) (fun t ht => Option.some.inj ht ▸ hu) h.implicitReturn_eq
  rw [← hlists]
  exact moveNotices_eq _ sf _ .evacuated h.owner rfl (.inl hj.symm)
    (arrivingAfter_eq s.port.cfg j h.owner h.notArriving)

/-- The entry of a stranded surface after its park (R120). -/
def parkedEntry (e : Entry) (k : Station) (r : Region) : Entry :=
  { e with state := .parked, target := none, implicit := true, ret := some ⟨.panel k, r⟩ }

/-- The park of a stranded surface, with its notice (R120, R123). -/
theorem Stranded.parkSurface_eq (h : Stranded s sf k r) :
    s.parkSurface sf { s.surface sf with ret := some ⟨.panel k, r⟩, implicit := true } .evacuated
      = written s (s.tables.removeAll sf).lists sf (parkedEntry (s.surface sf) k r)
          (if k = s.own then
            [.surfaceParked sf (s.surface sf).appTag (some r) (some ⟨.panel k, r⟩) .evacuated] else []) := by
  have hentry : parkedEntry (s.surface sf) k r = { parkedEntry (s.surface sf) k r with arriving := none } := by
    simp [parkedEntry, h.notArriving]
  rw [State.parkSurface, h.owner, h.region, notifyAt_eq, hentry]
  rfl

/-- The pass parks a stranded surface that has no usable fallback (R117, R120). -/
theorem Stranded.pass_parks (h : Stranded s sf k r) (hf : ∀ f ∈ (s.ruleOf (.panel k)).fallbacks, s.usable f = false) :
    s.countArrivals.evacuate.restore
      = written s #v[[], [], [], []] sf (parkedEntry (s.surface sf) k r)
          (if k = s.own then
            [.surfaceParked sf (s.surface sf).appTag (some r) (some ⟨.panel k, r⟩) .evacuated] else []) := by
  have hnone : (s.ruleOf (.panel k)).fallbacks.find? (fun f => s.usable f && s.roomFor sf f) = none :=
    List.find?_eq_none.mpr fun f hm => by simp [hf f hm]
  have hstep : s.evacuateSurface (.panel k) sf
      = s.parkSurface sf { s.surface sf with ret := some ⟨.panel k, r⟩, implicit := true } .evacuated := by
    simp only [State.evacuateSurface, unlockRehomed_eq_self h.unlocked, hnone, h.implicitReturn_eq]
  refine h.pass_eq (hstep.trans ?_) nofun rfl
  rw [h.parkSurface_eq, removeAll_oneList h.lists]

end

/-- R116 to R120, from the two outcomes of the pass over a stranded surface. -/
theorem evacuationMovesOrParks : Claim.EvacuationMovesOrParks := by
  intro sf k r s hr hh hfr hq htx hk hp ht hreg ho hl hi ha halone hlists hun
  have h : Stranded (closing s) sf k r := ⟨htx, hk, hp, ht, hreg, ho, hl, hi, ha, halone, hlists, hun⟩
  refine ⟨fun j hj hu hf => ?_, fun hf => ?_⟩
  · obtain ⟨t, hex, hsf, hli, hothers, hport⟩ := cycleClose_written hr hh hfr hq halone (h.pass_moves hj hu hf)
    refine ⟨t, hex, hsf.trans (h.evacuatedEntry_eq j), hli, hothers, fun given hgiven hroom => ?_⟩
    have hmoved : given = movedNotices s.port.cfg s.own k j sf (s.surface sf).appTag ⟨.panel j, ⟨0, 0, 24, 32⟩⟩
        .evacuated := by
      rw [hgiven, movedNotices]
      simp only [ne_eq, hj.symm, not_false_eq_true, true_and]
    rw [hmoved] at hroom ⊢
    exact hport hroom
  · obtain ⟨t, hex, hsf, hli, hothers, hport⟩ := cycleClose_written hr hh hfr hq halone (h.pass_parks hf)
    refine ⟨t, hex, hsf, hli, hothers, fun hown hroom => ?_⟩
    have hown' : k = (closing s).own := hown
    rw [if_pos hown'] at hport
    rw [hport hroom]
    rfl

/-! ### O39: restore -/

/-- One surface is alone in the table, parked by a re-home move, and in scope of the restore part (R121). -/
structure Returning (s : State) (sf : Surf) (k o : Station) (r : Region) : Prop where
  noTxns : s.txns.table = []
  parked : (s.surface sf).state = .parked
  target : (s.surface sf).target = none
  owner : (s.surface sf).owner = some o
  ret : (s.surface sf).ret = some ⟨.panel k, r⟩
  implicit : (s.surface sf).implicit = true
  unlocked : (s.surface sf).lock = none
  notArriving : (s.surface sf).arriving = none
  alone : Alone s sf
  lists : s.tables.lists = #v[[], [], [], []]
  usable : s.usable (.panel k) = true
  restores : (s.ruleOf (.panel k)).restore = true

section
variable {s : State} {sf : Surf} {k o : Station} {r : Region}

theorem Returning.restorable_eq (h : Returning s sf k o r) : s.restorable sf = some ⟨.panel k, r⟩ := by
  simp [State.restorable, h.ret, h.implicit, h.unlocked, h.usable, h.restores]

/-- The entry of a returning surface after its restore (R119, R122). -/
theorem Returning.restoredEntry_eq (h : Returning s sf k o r) :
    restoredEntry s.port.cfg (s.surface sf) ⟨.panel k, r⟩ = { s.surface sf with
      state := .placed, target := some (.panel k), region := some r, owner := some k, implicit := false, ret := none
      arriving := if s.port.cfg.group o = s.port.cfg.group k then none else some s.port.cfg.arrivalLimit } := by
  rw [← arrivingAfter_eq s.port.cfg k h.owner h.notArriving]
  rfl

/-- The restore step of a returning surface (R122). -/
theorem Returning.restoreSurface_eq (h : Returning s sf k o r) :
    s.restoreSurface sf
      = written s (oneList k sf) sf (restoredEntry s.port.cfg (s.surface sf) ⟨.panel k, r⟩)
          (movedNotices s.port.cfg s.own o k sf (s.surface sf).appTag ⟨.panel k, r⟩ .restored) := by
  have hroom : s.roomFor sf (.panel k) = true :=
    roomFor_emptyList sf h.noTxns (by rw [h.lists]; exact emptyLists_get k)
  have hstep : s.restoreSurface sf = s.restoreTo sf ⟨.panel k, r⟩ := by
    simp [State.restoreSurface, h.restorable_eq, h.target]
  rw [hstep, ← insertFront_lists sf k (removeAll_empty sf h.lists)]
  exact (if_pos hroom).trans
    (moveNotices_eq _ sf _ .restored h.owner rfl (.inr h.parked)
      (arrivingAfter_eq s.port.cfg k h.owner h.notArriving))

/-- The pass restores a returning surface and does nothing else. -/
theorem Returning.pass_restores (h : Returning s sf k o r) :
    s.countArrivals.evacuate.restore = s.restoreSurface sf := by
  have hevac : s.evacuate = s := evacuate_eq_self fun t _ sg hp _ => by
    rw [h.alone.eq_of_placed hp, h.parked] at hp
    exact nomatch hp
  rw [h.alone.countArrivals_eq h.notArriving, hevac]
  refine foldl_eq_once (mem_surfs sf) (fun sg hsg => ?_) fun sg => ?_
  · exact restoreSurface_eq_self (restorable_eq_none fun p _ hp => absurd (h.alone.eq_of_ret hp) hsg)
  · refine restoreSurface_eq_self (restorable_eq_none fun p _ hp => ?_)
    rw [h.restoreSurface_eq] at hp
    rw [(h.alone.written _ _ _).eq_of_ret hp, written_surface_same] at hp
    exact nomatch hp

end

/-- R121 and R122, from the pass over a returning surface. -/
theorem restoreBringsBack : Claim.RestoreBringsBack := by
  intro sf k o r s hr hh hfr hq htx hp ht ho hret hi hl ha halone hlists hu hrule
  have h : Returning (closing s) sf k o r := ⟨htx, hp, ht, ho, hret, hi, hl, ha, halone, hlists, hu, hrule⟩
  obtain ⟨t, hex, hsf, hli, hothers, hport⟩ :=
    cycleClose_written hr hh hfr hq halone (h.pass_restores.trans h.restoreSurface_eq)
  refine ⟨t, hex, hsf.trans h.restoredEntry_eq, hli, hothers, ?_⟩
  rintro given rfl hroom
  exact hport hroom

/-- Settles O39: each pass over a table of one surface is that surface's move, park or restore, and nothing else. -/
theorem rehomePassMoves : Obligations.RehomePassMoves := ⟨evacuationMovesOrParks, restoreBringsBack⟩

end Sys2Proof.Rehoming
end

section
/-! O57, O36, O6, O27 and O54: the message pool and the notice queue. Every command but four evolves the state
(Laws/Evolves.lean), and those four leave the queues or empty them, so a step keeps the bounds of the queues; a drop, and
a run of drops, is brought into one form with its record and its counter. -/

namespace Sys2Proof.MessagePool

open Sys2Proof Sys2Proof.Machine

/-! ### O57: what a command keeps -/

/-- The bounds of the notice queue and of the shared buffers are carried on. -/
def KeepsQueues (s t : State) : Prop := (s.NoticesFit → t.NoticesFit) ∧ (s.SharedFit → t.SharedFit)

/-- A command that writes what no other operation writes (`State.outer`): RESET_N, the straps, the configuration, or the
number of free values used. -/
def writesOuter : Instr → Bool
  | .hardReset _ | .resetAsserted | .setConfig _ | .readStatus => true
  | _ => false

theorem evolves_keepsQueues {s t : State} (h : Evolves s t) : KeepsQueues s t :=
  have ⟨_, hnotices, _, _, _, _, hshared⟩ := h
  ⟨hnotices, hshared⟩

/-- Notices and buffers are as before, so the bounds are carried on. -/
theorem keepsQueues_of_eq {s t : State} (hn : t.port.notices = s.port.notices) (hp : t.pool = s.pool)
    (hl : t.link.sending = s.link.sending) : KeepsQueues s t := by
  refine ⟨fun h => by rwa [State.NoticesFit, hn], fun ⟨hshared, hcontrol⟩ => ⟨?_, by rwa [hp]⟩⟩
  rwa [State.holdingShared_congr (by rw [hp]) (by rw [hp]) (by rw [hp]) hl]

theorem evolves_ite {s t : State} {c : Prop} [Decidable c] (h : Evolves s t) : Evolves s (if c then t else s) := by
  split
  · exact h
  · exact Evolves.refl s

/-- With RESET_N low a meaning leaves the state (log entry 7), else it gives its own. -/
theorem whenRunning_next {s t u : State} (h : whenRunning s t = .next u) : u = s ∨ u = t := by
  unfold whenRunning at h
  injection h with h
  split at h
  · exact .inl h.symm
  · exact .inr h.symm

theorem whenRunning_evolves {s t u : State} (h : whenRunning s t = .next u) (ht : Evolves s t) : Evolves s u := by
  obtain rfl | rfl := whenRunning_next h
  · exact Evolves.refl u
  · exact ht

/-- A COMMAND evolves the state where its owning rule does. -/
theorem command_evolves {s u : State} {code : Byte} {ok : Bool} {f : State → State × Result}
    (h : whenRunning s (runCommand code ok f s) = .next u) (hf : Evolves s (f s).1) : Evolves s u :=
  whenRunning_evolves h (runCommand_evolves code ok f s hf)

/-! #### The events -/

theorem tailStart_evolves (s : State) (order : List TailWork) : Evolves s (s.tailStart order) :=
  (Evolves.foldl (State.tailWork_evolves s.ctl.linkState) (tailOrder order) (Evolves.refl s)).trans (Evolves.refl _)

/-- The own frame is packed once the one before it is no longer sent. -/
theorem packOwnFrame_evolves (s : State) : Evolves s s.stopSending.packOwn :=
  s.stopSending_evolves.trans (State.packOwn_evolves _ s.stopSending_sending)

theorem wakeCountExpiry_evolves (s : State) : Evolves s s.wakeExpired.sendList :=
  s.wakeExpired_evolves.trans (State.sendList_evolves _)

theorem cycleClose_evolves (s : State) :
    Evolves s { s with link := { s.link with timer := cycleCloseTime } }.abandon.rehomePass.beginRead :=
  ((State.abandon_evolves { s with link := { s.link with timer := cycleCloseTime } }).trans
    (State.rehomePass_evolves _)).trans (Evolves.refl _)

/-- Every command evolves the state but those that write its outer part. -/
theorem exec_evolves {i : Instr} {s t : State} (hi : writesOuter i = false) (h : exec i s = .next t) : Evolves s t := by
  cases i with
  | hardReset _ => cases hi
  | resetAsserted => cases hi
  | setConfig _ => cases hi
  | readStatus => cases hi
  | cycleStart holdFirst => exact whenRunning_evolves h (s.cycleStart_evolves holdFirst)
  | wakeCountExpiry => exact whenRunning_evolves h (evolves_ite (wakeCountExpiry_evolves s))
  | packOwnFrame => exact whenRunning_evolves h (evolves_ite (packOwnFrame_evolves s))
  | frameArrival a => exact whenRunning_evolves h (evolves_ite (s.arrive_evolves a))
  | tailStart order => exact whenRunning_evolves h (tailStart_evolves s order)
  | lossDeclaration => exact whenRunning_evolves h s.declareLosses_evolves
  | listenExpired => exact whenRunning_evolves h s.listenExpired_evolves
  | coldstartDone => exact whenRunning_evolves h s.coldstartDone_evolves
  | integrated => exact whenRunning_evolves h s.integrated_evolves
  | staleLimit => exact whenRunning_evolves h (evolves_ite s.staleOut_evolves)
  | dwellComplete => exact whenRunning_evolves h (evolves_ite s.dwellComplete_evolves)
  | freezeLimit => exact whenRunning_evolves h s.freezeLimit_evolves
  | deadline => exact whenRunning_evolves h s.expireEntries_evolves
  | offerExpiry => exact whenRunning_evolves h s.expireOffers_evolves
  | relayAged => exact whenRunning_evolves h s.dropAged_evolves
  | blankRefused => exact whenRunning_evolves h s.blankExpired_evolves
  | cycleClose => exact whenRunning_evolves h (cycleClose_evolves s)
  | sensorReadDone _ => exact whenRunning_evolves h (evolves_ite (Evolves.refl s))
  | arrivalTimeout => exact whenRunning_evolves h (evolves_ite s.timeoutArrivals_evolves)
  | latch => exact whenRunning_evolves h s.latch_evolves
  | accessEnd _ _ => exact whenRunning_evolves h (Evolves.refl s)
  | unassignedAccessKind _ => exact whenRunning_evolves h (Evolves.refl s)
  | start _ => exact command_evolves h s.start_evolves
  | leave _ => exact command_evolves h s.leave_evolves
  | create args => exact command_evolves h (createArgs_evolves args s)
  | destroy args => exact command_evolves h (surfaceArg_evolves args _ s (State.destroySurface_evolves · s))
  | showCmd args => exact command_evolves h (surfaceArg_evolves args _ s (State.showSurface_evolves · s))
  | hide args => exact command_evolves h (surfaceArg_evolves args _ s (State.hideSurface_evolves · s))
  | raise args => exact command_evolves h (surfaceArg_evolves args _ s (State.raiseSurface_evolves · s))
  | lower args => exact command_evolves h (surfaceArg_evolves args _ s (State.lowerSurface_evolves · s))
  | resize args => exact command_evolves h (resizeArgs_evolves args s)
  | confirm args => exact command_evolves h (surfaceArg_evolves args _ s (State.confirmSurface_evolves · s))
  | move args => exact command_evolves h (moveArgs_evolves args s)
  | returnCmd args => exact command_evolves h (surfaceArg_evolves args _ s (State.returnSurface_evolves · s))
  | cancel args => exact command_evolves h (cancelArgs_evolves args s)
  | accept args => exact command_evolves h (acceptArgs_evolves args s)
  | decline args => exact command_evolves h (declineArgs_evolves args s)
  | relay args => exact command_evolves h (relayArgs_evolves args s)
  | blank _ => exact command_evolves h s.blank_evolves
  | wake _ => exact command_evolves h s.wake_evolves
  | clearAdjust _ => exact command_evolves h s.clearAdjust_evolves
  | clearLinkLog _ => exact command_evolves h s.clearLinkLog_evolves
  | readNotice => exact whenRunning_evolves h (s.popNotice_evolves.trans (Evolves.refl _))
  | readEntry _ => exact whenRunning_evolves h (Evolves.refl s)
  | readDropLog =>
    exact whenRunning_evolves h (s.shrink_evolves _ (Nat.le_refl _) (Nat.le_refl _) (Nat.le_refl _) fun _ => Or.inl)
  | readLinkLog => exact whenRunning_evolves h (Evolves.refl s)
  | unassignedCommandKind _ _ => exact command_evolves h (Evolves.refl s)

/-! #### The commands that write the outer part -/

/-- A release of RESET_N leaves no buffer taken and at most the LINK_STATE notice of AUTO (R46). -/
theorem hardReset_queues (pins : StrapPins) (s : State) {t : State} (h : exec (.hardReset pins) s = .next t) :
    t.NoticesFit ∧ t.SharedFit := by
  injection h with h
  subst h
  have hstart : Evolves (State.ofStraps (Straps.latch pins)) (State.ofStraps (Straps.latch pins)).autoStart :=
    evolves_ite (State.start_evolves _)
  obtain ⟨hnotices, hshared⟩ := evolves_keepsQueues hstart
  exact ⟨hnotices (Nat.zero_le 16), hshared ⟨Nat.zero_le 20, fun _ hm => nomatch hm⟩⟩

/-- An own transmission that stops frees its buffers, and RESET_N low changes no queue (R34). -/
theorem resetAsserted_keepsQueues {s t : State} (h : exec .resetAsserted s = .next t) : KeepsQueues s t := by
  injection h with h
  subst h
  exact ⟨id, (evolves_keepsQueues s.stopSending_evolves).2⟩

/-- SET_CONFIG writes the configuration alone (R180). -/
theorem setConfigArgs_eq (args : List Byte) (s : State) :
    ∃ c, (setConfigArgs args s).1 = { s with port := { s.port with cfg := c } } := by
  unfold setConfigArgs
  split
  · unfold State.setConfig
    split
    · exact ⟨s.port.cfg, rfl⟩
    · split
      · exact ⟨_, rfl⟩
      · exact ⟨s.port.cfg, rfl⟩
  · exact ⟨s.port.cfg, rfl⟩

theorem setConfig_keepsQueues {args : List Byte} {s t : State} (h : exec (.setConfig args) s = .next t) :
    KeepsQueues s t := by
  obtain ⟨c, hc⟩ := setConfigArgs_eq args s
  obtain rfl | rfl := whenRunning_next h
  · exact evolves_keepsQueues (Evolves.refl t)
  · cases args.length == 5 with
    | false => exact keepsQueues_of_eq rfl rfl rfl
    | true =>
      rw [runCommand_ok, hc]
      exact keepsQueues_of_eq rfl rfl rfl

theorem readStatus_keepsQueues {s t : State} (h : exec .readStatus s = .next t) : KeepsQueues s t := by
  obtain rfl | rfl := whenRunning_next h
  · exact evolves_keepsQueues (Evolves.refl t)
  · exact keepsQueues_of_eq rfl rfl rfl

/-- Every command keeps the bounds of the queues. -/
theorem exec_keepsQueues {i : Instr} {s t : State} (h : exec i s = .next t) : KeepsQueues s t := by
  cases hi : writesOuter i with
  | false => exact evolves_keepsQueues (exec_evolves hi h)
  | true =>
    cases i with
    | hardReset pins =>
      have ⟨hnotices, hshared⟩ := hardReset_queues pins s h
      exact ⟨fun _ => hnotices, fun _ => hshared⟩
    | resetAsserted => exact resetAsserted_keepsQueues h
    | setConfig args => exact setConfig_keepsQueues h
    | readStatus => exact readStatus_keepsQueues h
    | _ => cases hi

/-- A step takes the command at the front of the queue, which neither bound counts. -/
theorem step_keepsQueues {s t : State} (h : step s = .next t) : KeepsQueues s t := by
  unfold step at h
  split at h
  · next c rest _ => exact exec_keepsQueues (s := { s with pending := rest }) h
  · injection h with h
    exact h ▸ evolves_keepsQueues (Evolves.refl s)

/-- Settles O57: every command keeps both bounds, and a step is one command. -/
theorem queuesStayWithinBounds : Obligations.QueuesStayWithinBounds :=
  ⟨fun _ _ hfit h => (step_keepsQueues h).1 hfit, fun _ _ hfit h => (step_keepsQueues h).2 hfit⟩

/-! ### Drops (R159, R160) -/

/-- A drop fills record A where it is empty; record B takes the next one. -/
theorem recordDrop_eq (p : Pool) (d : DropRecord) :
    p.recordDrop d =
      { p with dropA := p.dropA.or (some d), dropB := if p.dropA = none then p.dropB else p.dropB.or (some d) } := by
  obtain ⟨_, _, _, _, _, dropA, dropB, _, _, _, _⟩ := p
  cases dropA <;> cases dropB <;> rfl

/-- A relay that aged out is counted in RELAY. -/
theorem drop_relayAged (s : State) (kind : Byte) (k : Option Station) :
    s.drop .relay .relayAged kind k =
      { s with pool := { s.pool.recordDrop ⟨.relay, .relayAged, kind, k, s.link.cycle⟩ with
          dropsRelay := bump s.pool.dropsRelay } } := by
  simp [State.drop, Pool.countDrop, recordDrop_eq]

/-- A relay that its destination could not deliver is counted in INBOUND. -/
theorem drop_inboundFull (s : State) (kind : Byte) (k : Option Station) :
    s.drop .relay .inboundFull kind k =
      { s with pool := { s.pool.recordDrop ⟨.relay, .inboundFull, kind, k, s.link.cycle⟩ with
          dropsInbound := bump s.pool.dropsInbound } } := by
  simp [State.drop, Pool.countDrop, recordDrop_eq]

/-- A counter that saturates at each rise holds what one saturation at the end gives. -/
theorem bump_add (m n : Nat) : min 65535 (bump m + n) = min 65535 (m + (n + 1)) := by
  unfold bump
  omega

/-! ### O36: relays at the age limit -/

/-- The record of a relay dropped at the age limit. -/
def agedRecord (s : State) (r : RelayMsg) : DropRecord := ⟨.relay, .relayAged, 0x40, some r.dest, s.link.cycle⟩

/-- Relays dropped one after another: the first fills an empty record A, each counts, and but for record B nothing else
changes. -/
theorem dropRelays_eq (l : List RelayMsg) (s : State) (h : s.pool.dropsRelay ≤ 65535) :
    ∃ b, l.foldl (fun s r => s.drop .relay .relayAged 0x40 (some r.dest)) s =
      { s with pool := { s.pool with
          dropA := s.pool.dropA.or (l.head?.map (agedRecord s)), dropB := b
          dropsRelay := min 65535 (s.pool.dropsRelay + l.length) } } := by
  induction l generalizing s with
  | nil => exact ⟨s.pool.dropB, by simp [Nat.min_eq_right h]⟩
  | cons r l ih =>
    obtain ⟨b, hb⟩ := ih (s.drop .relay .relayAged 0x40 (some r.dest))
      (by rw [drop_relayAged]; exact Nat.min_le_left _ _)
    refine ⟨b, ?_⟩
    rw [List.foldl_cons, hb, drop_relayAged, recordDrop_eq]
    simp only [bump_add, List.length_cons, List.head?_cons, Option.map_some]
    rw [Option.or_assoc]
    rfl

/-- What RELAY_AGED leaves: the younger relays, the record and the counter of the others (R152, R159, R160). -/
theorem dropAged_eq (s : State) (h : s.pool.dropsRelay ≤ 65535) :
    ∃ b, s.dropAged =
      { s with pool := { s.pool with
          relay := s.pool.relay.filter (fun r => r.age < s.port.cfg.relayAgeLimit)
          dropA := s.pool.dropA.or
            ((s.pool.relay.filter (fun r => s.port.cfg.relayAgeLimit ≤ r.age)).head?.map (agedRecord s))
          dropB := b
          dropsRelay := min 65535
            (s.pool.dropsRelay + (s.pool.relay.filter (fun r => s.port.cfg.relayAgeLimit ≤ r.age)).length) } } := by
  have hyoung : s.pool.relay.filter (fun r => !(s.port.cfg.relayAgeLimit ≤ r.age))
      = s.pool.relay.filter (fun r => r.age < s.port.cfg.relayAgeLimit) :=
    List.filter_congr fun _ _ => decide_not.symm.trans (decide_eq_decide.mpr Nat.not_le)
  unfold State.dropAged
  dsimp only
  rw [hyoung]
  exact dropRelays_eq _ { s with pool := { s.pool with
    relay := s.pool.relay.filter (fun r => r.age < s.port.cfg.relayAgeLimit) } } h

/-- Settles O36: the aged relays leave the queue and are dropped in queue order, the first of them into record A. -/
theorem agedRelaysAreDropped : Obligations.AgedRelaysAreDropped := by
  intro s hruns hcount aged
  obtain ⟨b, hb⟩ := dropAged_eq s hcount
  refine ⟨_, (whenRunning_runs hruns s.dropAged).trans (congrArg Host.Outcome.next hb), rfl, rfl, rfl, rfl, rfl, rfl,
    rfl, rfl, rfl, fun hA => ?_, fun r rs hA haged => ?_⟩
  · exact Option.or_of_isSome (Option.isSome_iff_ne_none.mpr hA)
  · dsimp only
    rw [hA, show s.pool.relay.filter _ = r :: rs from haged]
    rfl

/-! ### O6: the panel controller leaves the pool -/

@[simp] theorem refuseBlank_pool (s : State) : s.refuseBlank.pool = s.pool := State.notify_pool _ _

@[simp] theorem settleLatch_pool (s : State) : s.settleLatch.pool = s.pool := by
  unfold State.settleLatch
  split
  · rfl
  · dsimp only
    split
    · exact State.notify_pool _ _
    · rfl

@[simp] theorem darken_pool (s : State) : s.darken.pool = s.pool := by
  unfold State.darken
  split
  · exact State.notify_pool _ _
  · dsimp only
    split
    · exact refuseBlank_pool _
    · rfl

@[simp] theorem wakeExpired_pool (s : State) : s.wakeExpired.pool = s.pool := by
  unfold State.wakeExpired
  split
  · exact State.notify_pool _ _
  · rfl

@[simp] theorem panelChanges_pool (s : State) : s.panelChanges.pool = s.pool := by
  unfold State.panelChanges
  split
  · split
    · exact darken_pool s
    · rfl
  · exact wakeExpired_pool _
  all_goals rfl

@[simp] theorem sendTransfer_pool (s : State) (wasDark : Bool) : (s.sendTransfer wasDark).pool = s.pool := by
  unfold State.sendTransfer
  split
  · rfl
  · rfl
  · split <;> rfl
  · rfl

@[simp] theorem panelCycleStart_pool (s : State) : s.panelCycleStart.pool = s.pool := by
  unfold State.panelCycleStart
  split
  · simp
  · rfl

/-- The freeze at a cycle start is the divergence monitor's alone. -/
theorem freezeCycleStart_eq (s : State) : ∃ d, s.freezeCycleStart = { s with div := d } := by
  unfold State.freezeCycleStart
  split
  · split <;> exact ⟨_, rfl⟩
  · exact ⟨s.div, rfl⟩

/-- The relay hold after a cycle start, from the notice count that the operand names (log entry 5). -/
theorem cycleStart_relayHold (s : State) (holdFirst : Bool) :
    (s.cycleStart holdFirst).pool.relayHold =
      relayHoldAfter s.pool.relayHold
        (if holdFirst then s.port.notices.length else (s.cycleStart holdFirst).port.notices.length) := by
  obtain ⟨d, hd⟩ := freezeCycleStart_eq s.beginCycle.formSample.formDigest
  unfold State.cycleStart
  rw [hd]
  cases holdFirst with
  | true => exact congrArg Pool.relayHold (panelCycleStart_pool _)
  | false => simp [State.readRelayHold, State.beginCycle, State.formSample, State.formDigest]

theorem relayHoldAfter_yes {hold : Bool} {n : Nat} (h : 12 ≤ n ∨ hold = true ∧ 4 < n) :
    relayHoldAfter hold n = true := by
  cases hold <;> simp [relayHoldAfter] at h ⊢ <;> omega

theorem relayHoldAfter_no {hold : Bool} {n : Nat} (h : n ≤ 4 ∨ hold = false ∧ n < 12) :
    relayHoldAfter hold n = false := by
  cases hold <;> simp [relayHoldAfter] at h ⊢ <;> omega

/-- Settles O6, by the reading of the notice count at the cycle start. -/
theorem relayHoldHysteresis : Obligations.RelayHoldHysteresis := by
  intro holdFirst s hruns
  refine ⟨s.cycleStart holdFirst, whenRunning_runs hruns _, ?_⟩
  rintro n rfl
  rw [cycleStart_relayHold]
  exact ⟨fun _ hn => relayHoldAfter_yes (.inl hn), fun _ hn => relayHoldAfter_no (.inl hn),
    fun h hn => relayHoldAfter_no (.inr ⟨h, hn⟩), fun h hn => relayHoldAfter_yes (.inr ⟨h, hn⟩)⟩

/-! ### O27: a RELAY heard -/

theorem receiving_of_ne_halted {ls : LinkState} (h : ls ≠ .halted) : ls.receiving = true := by
  cases ls with
  | halted => exact absurd rfl h
  | listen | coldstart | integrating | active | resync => rfl

/-- A RELAY is handed to the pool in every receiving state. -/
theorem takeMsg_relay {s : State} (h : s.ctl.linkState ≠ .halted) (k d : Station) (payload : List Byte) :
    s.takeMsg k (Msg.heard (.relay d payload)) = s.hearRelay k d payload := by
  simp [State.takeMsg, Msg.heard, receiving_of_ne_halted h, Msg.meaningful, State.hearMsg]

/-- Settles O27, by the destination and the room in the notice queue. -/
theorem relayHeard : Obligations.RelayHeard := by
  intro k d payload s hlink
  rw [takeMsg_relay hlink, State.hearRelay]
  refine ⟨fun hd => if_pos hd, fun hd hroom => ?_, fun hd hfull => ?_⟩
  · rw [if_neg (not_not_intro hd), if_pos hroom, State.notify, if_pos hroom]
  · rw [if_neg (not_not_intro hd), if_neg (Nat.not_lt.mpr hfull), drop_inboundFull, recordDrop_eq]
    refine ⟨_, rfl, rfl, fun hA => ?_, fun hA => ?_⟩
    · simp [hA]
    · exact Option.or_of_isSome (Option.isSome_iff_ne_none.mpr hA)

/-! ### O54: the drop log is read -/

/-- Settles O54: the reply is formed before the log is emptied, and a drop then finds it empty. -/
theorem dropLogReadEmpties : Obligations.DropLogReadEmpties := by
  intro s hruns recordBytes emptied
  refine ⟨whenRunning_runs hruns _, fun kind k => ?_⟩
  rw [drop_relayAged, recordDrop_eq]
  rfl

end Sys2Proof.MessagePool
end

section
/-! O42: SET_CONFIG. Every item is one arm of `setItem`; an arm of a number is its byte form and its range, and is shown
to set the item or to refuse the value once for all of them. -/

namespace Sys2Proof.Configuration

open Sys2Proof Sys2Proof.Machine

/-! ### The answer of SET_CONFIG (R180) -/

/-- SET_CONFIG is answered DONE and leaves the configuration items given. -/
def Sets (s : State) (item v0 v1 v2 v3 : Byte) (c : ConfigItems) : Prop :=
  exec (.setConfig [item, v0, v1, v2, v3]) s
    = .next ({ s with port := { s.port with cfg := c } }.replies 0x01 [0x00])

/-- SET_CONFIG is answered with a code and changes nothing else. -/
def Refused (s : State) (item v0 v1 v2 v3 code : Byte) : Prop :=
  exec (.setConfig [item, v0, v1, v2, v3]) s = .next (s.replies 0x01 [code])

section Answer

variable {s : State} {item v0 v1 v2 v3 : Byte}

theorem refused_notHalted (hruns : s.Runs) (h : s.ctl.linkState ≠ .halted) : Refused s item v0 v1 v2 v3 0x10 :=
  command_next hruns rfl (r := .notHalted) (if_pos h)

theorem sets_of_setItem (hruns : s.Runs) (hhalted : s.ctl.linkState = .halted) {c : ConfigItems}
    (h : setItem s.port.cfg item v0 v1 v2 v3 = some c) : Sets s item v0 v1 v2 v3 c := by
  refine command_next hruns rfl (r := .done) ?_
  rw [setConfigArgs, State.setConfig, if_neg (not_not_intro hhalted), h]

theorem refused_of_setItem (hruns : s.Runs) (hhalted : s.ctl.linkState = .halted)
    (h : setItem s.port.cfg item v0 v1 v2 v3 = none) : Refused s item v0 v1 v2 v3 0x13 := by
  refine command_next hruns rfl (r := .badArg) ?_
  rw [setConfigArgs, State.setConfig, if_neg (not_not_intro hhalted), h]

end Answer

/-! ### The arms of `setItem` (Table 11-6) -/

theorem byte_eq_ofNat {b : Byte} {n : Nat} (h : b.toNat = n) : b = BitVec.ofNat 8 n := by
  rw [← h, BitVec.ofNat_toNat, BitVec.setWidth_eq]

section Arms

variable {c : ConfigItems} {item v0 v1 v2 v3 : Byte}

theorem setItem_noItem (h : item.toNat = 0 ∨ 52 < item.toNat) : setItem c item v0 v1 v2 v3 = none := by
  unfold setItem
  dsimp only
  iterate 11 rw [if_neg (by omega)]
  rw [dif_neg (by omega)]
  iterate 16 rw [if_neg (by omega)]

theorem setItem_spanPair (h : item.toNat = 6) :
    setItem c item v0 v1 v2 v3 = (toSpanPair v0 v1 v2 v3).map (fun x => { c with spanPair := x }) := by
  obtain rfl := byte_eq_ofNat h
  rfl

theorem setItem_b1 (h : item.toNat = 7) :
    setItem c item v0 v1 v2 v3 = (inRange 1 1850 (value2 v0 v1 v2 v3)).map (fun x => { c with b1 := x }) := by
  obtain rfl := byte_eq_ofNat h
  rfl

theorem setItem_rule (h : 12 ≤ item.toNat ∧ item.toNat ≤ 36) :
    setItem c item v0 v1 v2 v3
      = (toRule v0 v1 v2 v3).map (fun x => { c with rules := c.rules.set (item.toNat - 12) x (by omega) }) := by
  unfold setItem
  dsimp only
  iterate 11 rw [if_neg (by omega)]
  rw [dif_pos h]

theorem setItem_answerWindow (h : item.toNat = 37) :
    setItem c item v0 v1 v2 v3 = (inRange 4 63 (value1 v0 v1 v2 v3)).map (fun x => { c with answerWindow := x }) := by
  obtain rfl := byte_eq_ofNat h
  rfl

theorem setItem_strictMask (h : item.toNat = 40) :
    setItem c item v0 v1 v2 v3 = (inRange 0 7 (value1 v0 v1 v2 v3)).map (fun x =>
      { c with strictClipped := x.testBit 0, strictNoChange := x.testBit 1, strictReturnReplaced := x.testBit 2 }) := by
  obtain rfl := byte_eq_ofNat h
  rfl

end Arms

/-! ### Items that are one number -/

theorem inRange_some {lo hi n : Nat} (hlo : lo ≤ n) (hhi : n ≤ hi) : inRange lo hi (some n) = some n := by
  rw [inRange, Option.filter_some, decide_eq_true hlo, decide_eq_true hhi]
  rfl

theorem inRange_outside {lo hi n : Nat} (h : n < lo ∨ hi < n) : inRange lo hi (some n) = none := by
  rw [inRange, Option.filter_some, ← Bool.decide_and, decide_eq_false (by omega)]
  rfl

section Numbers

variable {s : State} {item v0 v1 v2 v3 : Byte} {lo hi : Nat} {f : Nat → ConfigItems}

/-- An item in byte 3 is set where the other bytes are 0 and the byte lies in the range, and is refused elsewhere. -/
theorem byteItem (hruns : s.Runs) (hhalted : s.ctl.linkState = .halted)
    (harm : setItem s.port.cfg item v0 v1 v2 v3 = (inRange lo hi (value1 v0 v1 v2 v3)).map f) :
    (v0 = 0 → v1 = 0 → v2 = 0 → lo ≤ v3.toNat → v3.toNat ≤ hi → Sets s item v0 v1 v2 v3 (f v3.toNat))
    ∧ ((v0 ≠ 0 ∨ v1 ≠ 0 ∨ v2 ≠ 0 ∨ v3.toNat < lo ∨ hi < v3.toNat) → Refused s item v0 v1 v2 v3 0x13) := by
  refine ⟨fun h0 h1 h2 hlo hhi => sets_of_setItem hruns hhalted ?_, fun h => refused_of_setItem hruns hhalted ?_⟩
  · rw [harm, value1, if_pos ⟨h0, h1, h2⟩, inRange_some hlo hhi, Option.map_some]
  · rw [harm, value1]
    split
    · next hz =>
      obtain ⟨h0, h1, h2⟩ := hz
      have hv := ((h.resolve_left (not_not_intro h0)).resolve_left (not_not_intro h1)).resolve_left (not_not_intro h2)
      rw [inRange_outside hv, Option.map_none]
    · rfl

/-- An item in bytes 2 and 3 is set where the other bytes are 0 and the value lies in the range, and is refused
elsewhere. -/
theorem halfItem (hruns : s.Runs) (hhalted : s.ctl.linkState = .halted)
    (harm : setItem s.port.cfg item v0 v1 v2 v3 = (inRange lo hi (value2 v0 v1 v2 v3)).map f) :
    (v0 = 0 → v1 = 0 → lo ≤ (toHalf v2 v3).toNat → (toHalf v2 v3).toNat ≤ hi →
      Sets s item v0 v1 v2 v3 (f (toHalf v2 v3).toNat))
    ∧ ((v0 ≠ 0 ∨ v1 ≠ 0 ∨ (toHalf v2 v3).toNat < lo ∨ hi < (toHalf v2 v3).toNat) →
      Refused s item v0 v1 v2 v3 0x13) := by
  refine ⟨fun h0 h1 hlo hhi => sets_of_setItem hruns hhalted ?_, fun h => refused_of_setItem hruns hhalted ?_⟩
  · rw [harm, value2, if_pos ⟨h0, h1⟩, inRange_some hlo hhi, Option.map_some]
  · rw [harm, value2]
    split
    · next hz =>
      obtain ⟨h0, h1⟩ := hz
      have hv := (h.resolve_left (not_not_intro h0)).resolve_left (not_not_intro h1)
      rw [inRange_outside hv, Option.map_none]
    · rfl

end Numbers

/-! ### Stations and targets as bytes -/

theorem toStation_some {b : Byte} {k : Station} (h : toStation b = some k) : b = stationByte k := by
  unfold toStation at h
  split at h
  · injection h with h
    rw [← h]
    exact byte_eq_ofNat rfl
  · cases h

theorem toStation_none {b : Byte} (h : ∀ k, b ≠ stationByte k) : toStation b = none :=
  Option.eq_none_iff_forall_ne_some.mpr fun k hk => h k (toStation_some hk)

theorem stationByte_ne_none (k : Station) : stationByte k ≠ 0xFF := by
  revert k; decide

theorem toTarget_some {b : Byte} {t : Target} (h : toTarget b = some t) : b = targetByte t := by
  unfold toTarget at h
  split at h
  · next k hk =>
    injection h with h
    rw [← h]
    exact toStation_some hk
  · split at h
    · next hb =>
      injection h with h
      rw [← h]
      exact hb
    · cases h

theorem toTarget_none {b : Byte} (h : ∀ t, b ≠ targetByte t) : toTarget b = none :=
  Option.eq_none_iff_forall_ne_some.mpr fun t ht => h t (toTarget_some ht)

/-! ### The span pair -/

theorem toSpanPair_stations (a b : Station) :
    toSpanPair 0 0 (stationByte a) (stationByte b) = if a = b then none else some (some (a, b)) := by
  rw [toSpanPair, if_pos ⟨rfl, rfl⟩, if_neg fun h => stationByte_ne_none a h.1, toStation_stationByte,
    toStation_stationByte]
  rfl

theorem toSpanPair_bad {v0 v1 v2 v3 : Byte}
    (h : v0 ≠ 0 ∨ v1 ≠ 0 ∨ (∀ k, v2 ≠ stationByte k) ∧ (v2 ≠ 0xFF ∨ v3 ≠ 0xFF)
      ∨ (∀ k, v3 ≠ stationByte k) ∧ (v2 ≠ 0xFF ∨ v3 ≠ 0xFF)) : toSpanPair v0 v1 v2 v3 = none := by
  unfold toSpanPair
  split
  · next hz =>
    obtain h | h | ⟨h2, hmark⟩ | ⟨h3, hmark⟩ := h
    · exact absurd hz.1 h
    · exact absurd hz.2 h
    · rw [if_neg (not_and_of_not_or_not hmark), toStation_none h2, Option.bind_none]
    · rw [if_neg (not_and_of_not_or_not hmark), toStation_none h3]
      cases toStation v2 <;> rfl
  · rfl

/-! ### Posture rules -/

section Rules

variable {v0 v1 v2 v3 : Byte}

theorem toRule_keep (h0 : v0.toNat ≤ 3) : toRule v0 0 v2 v3 = some ⟨v0.getLsbD 0, v0.getLsbD 1, []⟩ := by
  rw [toRule, if_pos h0]
  rfl

theorem toRule_one (h0 : v0.toNat ≤ 3) (t : Target) :
    toRule v0 1 (targetByte t) v3 = some ⟨v0.getLsbD 0, v0.getLsbD 1, [t]⟩ := by
  rw [toRule, if_pos h0, toTarget_targetByte]
  rfl

theorem toRule_two (h0 : v0.toNat ≤ 3) (t u : Target) :
    toRule v0 2 (targetByte t) (targetByte u) = some ⟨v0.getLsbD 0, v0.getLsbD 1, [t, u]⟩ := by
  rw [toRule, if_pos h0, toTarget_targetByte, toTarget_targetByte]
  rfl

theorem toRule_count (h : 2 < v1.toNat) : toRule v0 v1 v2 v3 = none := by
  have hne (b : Byte) (hb : b.toNat ≤ 2) : v1 ≠ b := by
    rintro rfl
    omega
  rw [toRule, if_neg (hne 0 (by decide)), if_neg (hne 1 (by decide)), if_neg (hne 2 (by decide)), ite_self]

theorem toRule_bits (h : 3 < v0.toNat) : toRule v0 v1 v2 v3 = none := if_neg (Nat.not_le.mpr h)

theorem toRule_firstTarget (h1 : v1 = 1 ∨ v1 = 2) (h2 : ∀ t, v2 ≠ targetByte t) : toRule v0 v1 v2 v3 = none := by
  rw [toRule, toTarget_none h2]
  obtain rfl | rfl := h1 <;> exact ite_self none

theorem toRule_secondTarget (h3 : ∀ t, v3 ≠ targetByte t) : toRule v0 2 v2 v3 = none := by
  rw [toRule, toTarget_none h3]
  cases toTarget v2 <;> exact ite_self none

variable {s : State} {item : Byte}

/-- A posture rule item takes its rule and changes only that one. -/
theorem sets_rule (hruns : s.Runs) (hhalted : s.ctl.linkState = .halted) (hitem : 12 ≤ item.toNat ∧ item.toNat ≤ 36)
    {r : Rule} (h : toRule v0 v1 v2 v3 = some r) :
    ∃ c, Sets s item v0 v1 v2 v3 c ∧ c = { s.port.cfg with rules := c.rules }
      ∧ c.rules.toList = s.port.cfg.rules.toList.set (item.toNat - 12) r := by
  have hlt : item.toNat - 12 < 25 := by omega
  refine ⟨{ s.port.cfg with rules := s.port.cfg.rules.set (item.toNat - 12) r }, sets_of_setItem hruns hhalted ?_, rfl,
    Vector.toList_set hlt⟩
  rw [setItem_rule hitem, h, Option.map_some]

theorem refused_rule (hruns : s.Runs) (hhalted : s.ctl.linkState = .halted)
    (hitem : 12 ≤ item.toNat ∧ item.toNat ≤ 36) (h : toRule v0 v1 v2 v3 = none) :
    Refused s item v0 v1 v2 v3 0x13 :=
  refused_of_setItem hruns hhalted (by rw [setItem_rule hitem, h, Option.map_none])

end Rules

/-! ### The two claims -/

/-- By the form of the item's value: a number, the span pair, a rule by its fallback count, the mask. -/
theorem setConfigOfPairRuleAndMask : Claim.SetConfigOfPairRuleAndMask := by
  intro item v0 v1 v2 v3 s hruns
  refine ⟨refused_notHalted hruns, fun hhalted => ?_⟩
  refine ⟨fun h => refused_of_setItem hruns hhalted (setItem_noItem h),
    fun h => (halfItem hruns hhalted (setItem_b1 h)).1,
    fun h hv => (halfItem hruns hhalted (setItem_b1 h)).2 ?_, ?_, ?_, ?_,
    fun h => (byteItem hruns hhalted (setItem_answerWindow h)).1,
    fun h => (byteItem hruns hhalted (setItem_answerWindow h)).2,
    fun h h0 h1 h2 => (byteItem hruns hhalted (setItem_strictMask h)).1 h0 h1 h2 (Nat.zero_le _)⟩
  · simpa only [Nat.lt_one_iff] using hv
  · rintro a b h rfl rfl rfl rfl
    refine ⟨fun hab => sets_of_setItem hruns hhalted ?_, fun hab => refused_of_setItem hruns hhalted ?_⟩
    · rw [setItem_spanPair h, toSpanPair_stations, if_neg hab, Option.map_some]
    · rw [setItem_spanPair h, toSpanPair_stations, if_pos hab, Option.map_none]
  · rintro h rfl rfl rfl rfl
    exact sets_of_setItem hruns hhalted (setItem_spanPair h)
  · intro hlo hhi h0
    refine ⟨?_, ?_, fun h => refused_rule hruns hhalted ⟨hlo, hhi⟩ (toRule_count h)⟩
    · rintro rfl
      exact sets_rule hruns hhalted ⟨hlo, hhi⟩ (toRule_keep h0)
    · rintro t u rfl rfl rfl
      exact sets_rule hruns hhalted ⟨hlo, hhi⟩ (toRule_two h0 t u)

/-- Each row of the two tables is one arm of `setItem`, which its item number picks. -/
theorem setConfigOfNumbers : Claim.SetConfigOfNumbers := by
  intro item v0 v1 v2 v3 s hruns hhalted cmd c sets refused half
  refine ⟨fun q hq hitem => byteItem hruns hhalted ?_, fun q hq hitem => halfItem hruns hhalted ?_, fun hlo hhi => ?_,
    fun h hv => ?_, fun h hv => ?_⟩
  · simp only [List.mem_cons, List.not_mem_nil, or_false] at hq
    rcases hq with rfl | rfl | rfl | rfl | rfl | rfl | rfl | rfl | rfl | rfl | rfl | rfl | rfl | rfl | rfl | rfl | rfl | rfl
    all_goals
      obtain rfl := byte_eq_ofNat hitem
      rfl
  · simp only [List.mem_cons, List.not_mem_nil, or_false] at hq
    rcases hq with rfl | rfl | rfl | rfl | rfl | rfl | rfl
    all_goals
      obtain rfl := byte_eq_ofNat hitem
      rfl
  · refine ⟨?_, fun h1 h2 => refused_rule hruns hhalted ⟨hlo, hhi⟩ (toRule_firstTarget h1 h2), ?_,
      fun h => refused_rule hruns hhalted ⟨hlo, hhi⟩ (toRule_bits h)⟩
    · rintro t h0 rfl rfl
      exact sets_rule hruns hhalted ⟨hlo, hhi⟩ (toRule_one h0 t)
    · rintro rfl h3
      exact refused_rule hruns hhalted ⟨hlo, hhi⟩ (toRule_secondTarget h3)
  · exact refused_of_setItem hruns hhalted (by rw [setItem_spanPair h, toSpanPair_bad hv, Option.map_none])
  · exact (byteItem hruns hhalted (setItem_strictMask h)).2 (hv.imp_right (Or.imp_right (Or.imp_right Or.inr)))

/-- Settles O42, by the arm of each item: a number in its range, the span pair, a posture rule, the strict mask. -/
theorem setConfigSetsOneItem : Obligations.SetConfigSetsOneItem := ⟨setConfigOfPairRuleAndMask, setConfigOfNumbers⟩

end Sys2Proof.Configuration
end

section
/-! O41, O52 and O55: accesses at the local port, CLEAR_ADJUST, the notice queue and the status record. -/

namespace Sys2Proof.LocalPort

open Sys2Proof Sys2Proof.Machine

/-! ### O41: the form of an access (R176, R177, Table 11-4) -/

theorem unassignedKindsRefused : Claim.UnassignedKindsRefused := fun _ _ _ hruns =>
  ⟨whenRunning_runs hruns _, command_badForm hruns rfl⟩

/-- The form check of a command with `n` argument bytes fails at any other number. -/
theorem args_badForm {s : State} {args : List Byte} {n : Nat} {code : Byte} {f : State → State × Result} (hruns : s.Runs)
    (h : args.length ≠ n) : whenRunning s (runCommand code (args.length == n) f s) = .next (s.replies code [0x13]) :=
  command_badForm hruns (beq_eq_false_iff_ne.mpr h)

/-- The form check of a command without arguments fails at any argument. -/
theorem noArgs_badForm {s : State} {args : List Byte} {code : Byte} {f : State → State × Result} (hruns : s.Runs)
    (h : args.length ≠ 0) : whenRunning s (runCommand code args.isEmpty f s) = .next (s.replies code [0x13]) :=
  command_badForm hruns (List.isEmpty_eq_false_iff.mpr fun he => h (List.length_eq_zero_iff.mpr he))

/-- Row by row, the form check is that of a command with arguments or of one without. -/
theorem wrongLengthRefused : Claim.WrongLengthRefused := by
  intro args s hruns
  refine ⟨?_, fun hlen => command_badForm hruns ?_⟩
  case refine_2 => rw [← Bool.decide_and, decide_eq_false (by omega)]
  simp only [List.forall_mem_cons, List.not_mem_nil, false_imp_iff, implies_true, and_true]
  have withArgs {n : Nat} {code : Byte} {f : State → State × Result} :=
    args_badForm (args := args) (n := n) (code := code) (f := f) hruns
  have noArgs {code : Byte} {f : State → State × Result} := noArgs_badForm (args := args) (code := code) (f := f) hruns
  exact ⟨withArgs, noArgs, noArgs, withArgs, withArgs, withArgs, withArgs, withArgs, withArgs, withArgs, withArgs,
    withArgs, withArgs, withArgs, withArgs, withArgs, noArgs, noArgs, noArgs, noArgs⟩

/-- The bytes of a COMMAND are complete with as many argument bytes as the length byte says. -/
theorem accessOf_command (c len : Byte) (args : List Byte) :
    accessOf (0x01 :: c :: len :: args)
      = if len.toNat ≤ args.length then some (commandOf c (args.take len.toNat)) else none := rfl

theorem natByte_toNat {n : Nat} (h : n ≤ 255) : (natByte n).toNat = n := by
  rw [natByte, BitVec.toNat_ofNat]
  omega

/-- An access that is no COMMAND and no READ_ENTRY is complete with its kind byte. -/
theorem accessOf_kind {k : Byte} (h1 : k ≠ 0x01) (h4 : k ≠ 0x04) (more : List Byte) :
    accessOf (k :: more) = some (readOf k) := by
  unfold accessOf
  dsimp only
  rw [if_neg h1, if_neg h4]

/-- An access kind outside 0x01..0x06 makes its event alone. -/
theorem accessOf_unassigned {k : Byte} (h : k = 0 ∨ 6 < k.toNat) (more : List Byte) :
    accessOf (k :: more) = some (.unassignedAccessKind k) := by
  have hne (b : Byte) (hb : 1 ≤ b.toNat ∧ b.toNat ≤ 6) : k ≠ b := by
    rintro rfl
    obtain rfl | h := h
    · exact absurd hb.1 (by decide)
    · omega
  rw [accessOf_kind (hne 0x01 (by decide)) (hne 0x04 (by decide)), readOf, if_neg (hne 0x02 (by decide)),
    if_neg (hne 0x03 (by decide)), if_neg (hne 0x05 (by decide)), if_neg (hne 0x06 (by decide))]

/-- A command kind that none of the 21 rows has is unassigned. -/
theorem commandOf_unassigned {c : Byte} (h : c ∉ assignedCommandKinds) (args : List Byte) :
    commandOf c args = .unassignedCommandKind c args := by
  simp only [assignedCommandKinds, List.mem_cons, List.not_mem_nil, or_false, not_or] at h
  simp only [commandOf, h, if_false]

/-- A COMMAND by its length byte, a read by its kind, and each command kind by its own row. -/
theorem requestBytesMakeAccess : Claim.RequestBytesMakeAccess := by
  refine ⟨fun c args more hlen => ?_, fun _ _ => rfl, fun more => ⟨rfl, rfl, rfl, rfl, fun k hk => ?_⟩, rfl, rfl,
    fun _ => rfl, rfl, fun c len args hlen => ?_, fun args => ⟨?_, fun c hc => commandOf_unassigned hc args⟩⟩
  · rw [accessOf_command, natByte_toNat hlen, if_pos (by simp), List.take_left]
  · exact accessOf_unassigned hk more
  · rw [accessOf_command, if_neg (Nat.not_le.mpr hlen)]
  · simp only [List.forall_mem_cons, List.not_mem_nil, false_imp_iff, implies_true, and_true]
    exact ⟨rfl, rfl, rfl, rfl, rfl, rfl, rfl, rfl, rfl, rfl, rfl, rfl, rfl, rfl, rfl, rfl, rfl, rfl, rfl, rfl, rfl⟩

/-- ACCESS_END with no access under way writes the record alone. -/
theorem accessEnd_noAccess {p : Port} (h : p.access = none) (a : LastAccess) :
    { p with lastAccess := some a, access := none } = { p with lastAccess := some a } := by
  rw [← h]

/-- The record is COMPLETE or REPLY_CUT by the bytes clocked out, and REQUEST_CUT with no access under way. -/
theorem accessEndRecords : Claim.AccessEndRecords := by
  intro request clocked s hruns
  refine ⟨fun a ha hlen => ?_, fun a ha hlen => ?_, fun ha => ?_⟩
  · refine (whenRunning_runs hruns _).trans ?_
    rw [ha, lastAccessOf, if_pos hlen]
  · refine (whenRunning_runs hruns _).trans ?_
    rw [ha, lastAccessOf, if_neg (Nat.not_le.mpr hlen)]
  · refine ⟨lastAccessOf none request clocked, rfl, rfl, rfl, ?_, (whenRunning_runs hruns _).trans ?_⟩
    · rintro c rest rfl
      rfl
    · rw [ha, accessEnd_noAccess ha]

theorem misoGivesReplyThenZeros : Claim.MisoGivesReplyThenZeros := by
  intro a n s ha
  rw [State.misoByte, ha]
  refine ⟨fun h => (List.getElem_eq_getD 0).symm, fun h => ?_⟩
  dsimp only
  rw [List.getD_eq_getElem?_getD, List.getElem?_eq_none h, Option.getD_none]

/-- Settles O41, claim by claim. -/
theorem accessForms : Obligations.AccessForms :=
  ⟨unassignedKindsRefused, wrongLengthRefused, accessEndRecords, requestBytesMakeAccess, misoGivesReplyThenZeros⟩

/-! ### O52: CLEAR_ADJUST (R185) -/

/-- A lenient condition is adjusted and the command goes on (R183). -/
theorem soft_lenient {s : State} {c : SoftCondition} (h : s.isStrict c = false) (code : Byte) (sf : Option Surf)
    (f : State → State × Result) : s.soft true c code sf f = f (s.adjust c code sf) := by
  rw [State.soft, h]
  rfl

/-- Settles O52: after the clear, the flag of the next condition is the only one set, and the capture is its own. -/
theorem clearAdjustClears : Obligations.ClearAdjustClears := by
  intro s hruns
  refine ⟨s.clearAdjust.1, command_next hruns rfl (r := .done) rfl, rfl, fun c code sf f hlenient => ?_⟩
  exact ⟨_, soft_lenient hlenient code sf f, rfl, rfl, rfl, rfl⟩

/-! ### O55: the notice queue (R186, R187) -/

theorem popNotice_cons {s : State} {n : Notice} {rest : List Notice} (h : s.port.notices = n :: rest) :
    s.popNotice = ({ s with port := { s.port with notices := rest } }, n.record) := by
  rw [State.popNotice, h]

theorem popNotice_nil {s : State} (h : s.port.notices = []) : s.popNotice = (s, noneRecord) := by
  rw [State.popNotice, h]

theorem readNotice_next {s : State} (hruns : s.Runs) :
    exec .readNotice s = .next (s.popNotice.1.setAccess 0x02 none (0x00 :: s.popNotice.2)) := whenRunning_runs hruns _

/-- At a part that runs INT_N is high where the queue is empty. -/
theorem intHigh_runs {s : State} (hruns : s.Runs) : s.intHigh = s.port.notices.isEmpty := by
  rw [State.intHigh, hruns, Bool.false_or]

/-- A notice added, a notice popped, and INT_N read off the queue that either leaves. -/
theorem noticesFirstInFirstOut : Claim.NoticesFirstInFirstOut := by
  intro s hruns
  refine ⟨fun n hroom => ?_, fun n hfull => if_neg (Nat.not_lt.mpr hfull), fun n rest hq => ?_, fun hq => ⟨?_, ?_⟩⟩
  · refine ⟨if_pos hroom, ?_⟩
    rw [intHigh_runs ((s.notify_resetLow n).trans hruns), State.notify_room n hroom]
    exact List.isEmpty_eq_false_iff.mpr (List.append_ne_nil_of_right_ne_nil _ (List.cons_ne_nil n []))
  · refine ⟨_, ?_, rfl, intHigh_runs hruns⟩
    rw [readNotice_next hruns, popNotice_cons hq]
    rfl
  · rw [readNotice_next hruns, popNotice_nil hq]
    rfl
  · rw [intHigh_runs hruns, hq]
    rfl

/-! ### O55: the status record (R188, Table 11-7) -/

/-- Bytes 0 to 12: straps, link state, pace, cycle count and the station's own counts. -/
def statusHead (s : State) : List Byte :=
  [stationByte s.ctl.straps.station, roleByte s.ctl.straps.role, angleKindByte s.ctl.straps.angle,
    rateByte s.ctl.straps.rate, flagByte s.ctl.straps.auto, linkStateByte s.ctl.linkState, optStationByte s.ctl.pace]
    ++ halfBytes s.link.cycle
    ++ [flagByte s.ctl.leavePending, flagByte s.ctl.joinPending, natByte s.ctl.clashCount, natByte s.ctl.syncMissCount]

/-- Bytes 13 to 31: the peer view, the lock with the config digest, the strict mask. -/
def statusConfig (s : State) : List Byte :=
  (stations.map s.peerStatus).flatten
    ++ ([flagByte s.port.locked, flagByte s.port.configDigest.isNone] ++ s.digestBytes 27 s.port.configDigest)
    ++ [maskByte s.port.cfg.strictClipped s.port.cfg.strictNoChange s.port.cfg.strictReturnReplaced]

/-- Bytes 32 and 33: the notice queue. -/
def statusNotices (s : State) : List Byte := [natByte s.port.notices.length, flagByte s.port.overrun]

/-- Bytes 34 to 37: the adjust flags and the capture record. -/
def statusAdjust (s : State) : List Byte :=
  maskByte s.port.adjClipped s.port.adjNoChange s.port.adjReturnReplaced :: s.captureBytes

/-- Bytes 42 and 43: own open count and sequence counter. -/
def statusTxns (s : State) : List Byte := s.panelOnly [natByte s.txns.ownOpen, s.txns.seq]

/-- Bytes 44 to 72: posture, digests, divergence monitor and pool. -/
def statusMonitors (s : State) : List Byte :=
  ([postureByte s.angle.ps.posture, candidateByte s.angle.ps.candidate, natByte s.angle.ps.dwell]
    ++ natHalf s.angle.angle
    ++ [flagByte s.angle.angleValid, natByte s.angle.ps.stale, flagByte s.angle.ps.distrust,
      flagByte s.angle.episode])
    ++ (flagByte s.div.ownDigest.isSome :: s.digestBytes 54 s.div.ownDigest)
    ++ s.panelOnly (flagByte s.div.reference.isSome :: s.digestBytes 59 s.div.reference)
    ++ s.panelOnly [flagByte s.div.freezeFlag, natByte s.div.freezeCount, optStationByte s.div.freezeGiver,
      dumpStateByte s.div.dumpState, natByte s.div.attempts]
    ++ [natByte s.holdingControl, natByte (s.holding .transaction), natByte (s.holding .state),
      natByte (s.holding .relay), flagByte s.pool.relayHold]

/-- Bytes 73 to 78: the panel. -/
def statusPanel (s : State) : List Byte :=
  s.panelOnly [panelStateByte s.panel.state, natByte s.panel.blankWait, flagByte s.panel.darkMark,
    natByte s.panel.wakeCount, natByte s.panel.missCount, flagByte s.panel.degraded]

/-- The status record by its groups. -/
theorem statusRecord_eq (s : State) :
    s.statusRecord = statusHead s ++ (statusConfig s ++ (statusNotices s ++ (statusAdjust s ++ (s.lastAccessBytes
      ++ (statusTxns s ++ (statusMonitors s ++ statusPanel s)))))) := by
  unfold State.statusRecord statusHead statusConfig statusNotices statusAdjust statusTxns statusMonitors statusPanel
  dsimp only
  simp only [List.append_assoc, List.cons_append, List.nil_append]

section Lengths

variable (s : State)

@[simp] theorem panelOnly_length (bs : List Byte) : (s.panelOnly bs).length = bs.length := by
  unfold State.panelOnly
  split
  · rfl
  · exact List.length_map _

@[simp] theorem digestBytes_length (offset : Nat) (w : Option Word) : (s.digestBytes offset w).length = 4 := by
  cases w <;> rfl

@[simp] theorem peerStatus_length (k : Station) : (s.peerStatus k).length = 3 := by
  unfold State.peerStatus
  split <;> rfl

@[simp] theorem captureBytes_length : s.captureBytes.length = 3 := by
  unfold State.captureBytes
  split <;> rfl

@[simp] theorem lastAccessBytes_length : s.lastAccessBytes.length = 4 := by
  unfold State.lastAccessBytes
  split <;> rfl

theorem statusHead_length : (statusHead s).length = 13 := rfl

theorem statusConfig_length : (statusConfig s).length = 19 := by
  simp [statusConfig, stations]

theorem statusNotices_length : (statusNotices s).length = 2 := rfl

theorem statusAdjust_length : (statusAdjust s).length = 4 := by
  simp [statusAdjust]

theorem statusTxns_length : (statusTxns s).length = 2 := panelOnly_length s _

theorem statusMonitors_length : (statusMonitors s).length = 29 := by
  simp [statusMonitors, natHalf, halfBytes]

theorem statusPanel_length : (statusPanel s).length = 6 := panelOnly_length s _

end Lengths

theorem statusRecord_length (s : State) : s.statusRecord.length = 79 := by
  simp only [statusRecord_eq, List.length_append, statusHead_length, statusConfig_length, statusNotices_length,
    statusAdjust_length, lastAccessBytes_length, statusTxns_length, statusMonitors_length, statusPanel_length]

/-- Where a group begins, the groups before it are dropped: its own length gives where the next one begins. -/
theorem drop_group {l a b : List Byte} {n m : Nat} (h : l.drop n = a ++ b) (ha : a.length = m) : l.drop (n + m) = b := by
  rw [← List.drop_drop, h, List.drop_left' ha]

/-- The groups from the notice queue, the last access, the transactions and the panel on. -/
theorem statusRecord_drop (s : State) :
    s.statusRecord.drop 32 = statusNotices s ++ (statusAdjust s ++ (s.lastAccessBytes
      ++ (statusTxns s ++ (statusMonitors s ++ statusPanel s))))
    ∧ s.statusRecord.drop 38 = s.lastAccessBytes ++ (statusTxns s ++ (statusMonitors s ++ statusPanel s))
    ∧ s.statusRecord.drop 42 = statusTxns s ++ (statusMonitors s ++ statusPanel s)
    ∧ s.statusRecord.drop 73 = statusPanel s := by
  have h13 := drop_group (List.drop_zero.trans (statusRecord_eq s)) (statusHead_length s)
  have h32 := drop_group h13 (statusConfig_length s)
  have h34 := drop_group h32 (statusNotices_length s)
  have h38 := drop_group h34 (statusAdjust_length s)
  have h42 := drop_group h38 (lastAccessBytes_length s)
  have h44 := drop_group h42 (statusTxns_length s)
  have h73 := drop_group h44 (statusMonitors_length s)
  exact ⟨h32, h38, h42, h73⟩

/-- The last byte of the last-access record is its completion. -/
theorem lastAccessBytes_completion {s : State} {a : LastAccess} (h : s.port.lastAccess = some a) :
    s.lastAccessBytes[3]? = some (completionByte a.completion) := by
  rw [State.lastAccessBytes, h]
  rfl

/-- A SENSOR station gives 0xFF for what it does not hold. -/
theorem panelOnly_sensor {s : State} (h : s.ctl.straps.role = .sensor) (bs : List Byte) :
    s.panelOnly bs = List.replicate bs.length 0xFF := by
  rw [State.panelOnly, State.isPanel, h]
  exact List.map_const'

theorem readStatus_next {s : State} (hruns : s.Runs) :
    exec .readStatus s = .next
      { s with
        port := { s.port with overrun := false, access := some ⟨0x03, none, 0x00 :: s.statusRecord⟩ }
        freeCount := s.freeCount + 1 } := whenRunning_runs hruns _

/-- The record is fixed before the flag is cleared; its stated bytes are whole groups, or the end of one. -/
theorem statusClearsOverrun : Claim.StatusClearsOverrun := by
  intro s hruns
  obtain ⟨hnotices, hlast, htxns, hpanel⟩ := statusRecord_drop s
  refine ⟨s.statusRecord, readStatus_next hruns, statusRecord_length s, ?_, ?_, fun a ha => ?_, fun hrole => ⟨?_, ?_⟩⟩
  · rw [statusRecord_eq]
    exact List.take_left' (statusHead_length s)
  · rw [hnotices]
    exact List.take_left' (statusNotices_length s)
  · have hat : s.statusRecord[41]? = (s.statusRecord.drop 38)[3]? := by rw [List.getElem?_drop]
    rw [hat, hlast, List.getElem?_append_left (by simp), lastAccessBytes_completion ha]
  · rw [htxns, List.take_left' (statusTxns_length s)]
    exact panelOnly_sensor hrole _
  · rw [hpanel]
    exact panelOnly_sensor hrole _

/-- Settles O55, by the notice queue and by the groups of the status record. -/
theorem noticesAndStatus : Obligations.NoticesAndStatus := ⟨noticesFirstInFirstOut, statusClearsOverrun⟩

end Sys2Proof.LocalPort
end

section
/-! O1: the queue and the step. The command at the front of the queue fixes which branch `step` takes. -/

namespace Sys2Proof.Queue

open Sys2Proof Sys2Proof.Machine

/-- In a state with a command waiting, a step is the front command on the queue's rest. -/
theorem step_of_pending_cons {s : State} {c : Instr} {rest : List Instr} (h : s.pending = c :: rest) :
    step s = exec c { s with pending := rest } := by
  rw [step, h]

/-- Settles O1: the queue that is put in has the command at its front, and its rest replaces it. -/
theorem stepTakesFront : Obligations.StepTakesFront := by
  intro s c rest
  exact step_of_pending_cons (s := { s with pending := c :: rest }) rfl

end Sys2Proof.Queue
end
